-- ==== Sys2Proof/Word.lean ====
section
/-! DEFINITION. The words of the JF-640's frames and stored records (00_scope.md, Conventions), and the records that hold one value per axle, truck, port or demand source. -/

namespace Sys2Proof

/-- One byte of a frame or of a stored record. -/
abbrev Byte := BitVec 8
/-- A two-byte field, most significant byte first on the line. -/
abbrev Word16 := BitVec 16
/-- A four-byte field, most significant byte first on the line. -/
abbrev Word32 := BitVec 32

/-- Axles 1 to 6 (00_scope.md, Axles, trucks and sources). -/
inductive Axle where
  | a1 | a2 | a3 | a4 | a5 | a6
  deriving DecidableEq, Repr

/-- Trucks A (axles 1 to 3) and B (axles 4 to 6). -/
inductive Truck where
  | a | b
  deriving DecidableEq, Repr

/-- The four link ports (00_scope.md, Link partners). -/
inductive PortId where
  | cab | traction | supervision | service
  deriving DecidableEq, Repr

/-- The three master ports, whose silence is significant. -/
inductive Master where
  | cab | traction | supervision
  deriving DecidableEq, Repr

/-- Demand sources S0 to S8 (R1). -/
inductive Source where
  | s0 | s1 | s2 | s3 | s4 | s5 | s6 | s7 | s8
  deriving DecidableEq, Repr

/-- The six axles in ascending number. -/
def Axle.all : List Axle := [.a1, .a2, .a3, .a4, .a5, .a6]

/-- The axle's number, 1 to 6. -/
def Axle.number : Axle → Nat
  | .a1 => 1 | .a2 => 2 | .a3 => 3 | .a4 => 4 | .a5 => 5 | .a6 => 6

/-- The truck an axle belongs to. -/
def Axle.truck : Axle → Truck
  | .a1 | .a2 | .a3 => .a
  | .a4 | .a5 | .a6 => .b

/-- The axles of a truck in ascending number. -/
def Truck.axles : Truck → List Axle
  | .a => [.a1, .a2, .a3]
  | .b => [.a4, .a5, .a6]

/-- The nine sources in ascending number, which is also ascending level (R1, R8). -/
def Source.all : List Source := [.s0, .s1, .s2, .s3, .s4, .s5, .s6, .s7, .s8]

/-- The source's number, 0 to 8. -/
def Source.number : Source → Nat
  | .s0 => 0 | .s1 => 1 | .s2 => 2 | .s3 => 3 | .s4 => 4
  | .s5 => 5 | .s6 => 6 | .s7 => 7 | .s8 => 8

/-- The port of a master. -/
def Master.port : Master → PortId
  | .cab => .cab | .traction => .traction | .supervision => .supervision

/-- One value for each axle. -/
structure PerAxle (α : Type) where
  a1 : α
  a2 : α
  a3 : α
  a4 : α
  a5 : α
  a6 : α
  deriving DecidableEq, Repr

/-- The value of one axle. -/
def PerAxle.get {α : Type} (p : PerAxle α) : Axle → α
  | .a1 => p.a1 | .a2 => p.a2 | .a3 => p.a3 | .a4 => p.a4 | .a5 => p.a5 | .a6 => p.a6

/-- The record with one axle's value replaced. -/
def PerAxle.set {α : Type} (p : PerAxle α) (i : Axle) (x : α) : PerAxle α :=
  match i with
  | .a1 => { p with a1 := x } | .a2 => { p with a2 := x } | .a3 => { p with a3 := x }
  | .a4 => { p with a4 := x } | .a5 => { p with a5 := x } | .a6 => { p with a6 := x }

/-- The record whose value at each axle is given by a function. -/
def PerAxle.ofFn {α : Type} (f : Axle → α) : PerAxle α :=
  ⟨f .a1, f .a2, f .a3, f .a4, f .a5, f .a6⟩

/-- The six values in ascending axle number. -/
def PerAxle.toList {α : Type} (p : PerAxle α) : List α := [p.a1, p.a2, p.a3, p.a4, p.a5, p.a6]

/-- The sum of six numbers. -/
def PerAxle.sum (p : PerAxle Nat) : Nat := p.a1 + p.a2 + p.a3 + p.a4 + p.a5 + p.a6

/-- One value for each truck. -/
structure PerTruck (α : Type) where
  a : α
  b : α
  deriving DecidableEq, Repr

/-- The value of one truck. -/
def PerTruck.get {α : Type} (p : PerTruck α) : Truck → α
  | .a => p.a | .b => p.b

/-- The record with one truck's value replaced. -/
def PerTruck.set {α : Type} (p : PerTruck α) (t : Truck) (x : α) : PerTruck α :=
  match t with
  | .a => { p with a := x } | .b => { p with b := x }

/-- The record whose value at each truck is given by a function. -/
def PerTruck.ofFn {α : Type} (f : Truck → α) : PerTruck α := ⟨f .a, f .b⟩

/-- One value for each of the four ports. -/
structure PerPort (α : Type) where
  cab : α
  traction : α
  supervision : α
  service : α
  deriving DecidableEq, Repr

/-- The value of one port. -/
def PerPort.get {α : Type} (p : PerPort α) : PortId → α
  | .cab => p.cab | .traction => p.traction | .supervision => p.supervision | .service => p.service

/-- The record with one port's value replaced. -/
def PerPort.set {α : Type} (p : PerPort α) (i : PortId) (x : α) : PerPort α :=
  match i with
  | .cab => { p with cab := x } | .traction => { p with traction := x }
  | .supervision => { p with supervision := x } | .service => { p with service := x }

/-- One value for each master port. -/
structure PerMaster (α : Type) where
  cab : α
  traction : α
  supervision : α
  deriving DecidableEq, Repr

/-- The value of one master port. -/
def PerMaster.get {α : Type} (p : PerMaster α) : Master → α
  | .cab => p.cab | .traction => p.traction | .supervision => p.supervision

/-- The record with one master port's value replaced. -/
def PerMaster.set {α : Type} (p : PerMaster α) (i : Master) (x : α) : PerMaster α :=
  match i with
  | .cab => { p with cab := x } | .traction => { p with traction := x }
  | .supervision => { p with supervision := x }

/-- One value for each demand source. -/
structure PerSource (α : Type) where
  s0 : α
  s1 : α
  s2 : α
  s3 : α
  s4 : α
  s5 : α
  s6 : α
  s7 : α
  s8 : α
  deriving DecidableEq, Repr

/-- The value of one source. -/
def PerSource.get {α : Type} (p : PerSource α) : Source → α
  | .s0 => p.s0 | .s1 => p.s1 | .s2 => p.s2 | .s3 => p.s3 | .s4 => p.s4
  | .s5 => p.s5 | .s6 => p.s6 | .s7 => p.s7 | .s8 => p.s8

/-- The record with one source's value replaced. -/
def PerSource.set {α : Type} (p : PerSource α) (i : Source) (x : α) : PerSource α :=
  match i with
  | .s0 => { p with s0 := x } | .s1 => { p with s1 := x } | .s2 => { p with s2 := x }
  | .s3 => { p with s3 := x } | .s4 => { p with s4 := x } | .s5 => { p with s5 := x }
  | .s6 => { p with s6 := x } | .s7 => { p with s7 := x } | .s8 => { p with s8 := x }

end Sys2Proof
end

