-- ==== Sys2Proof/Config.lean ====
section
/-! DEFINITION. The values the spec leaves open. Each is an opaque constant with no body, applied to the number of the draw (State.draws), so that nothing can be proved about its value. -/

namespace Sys2Proof

/-- FREE VALUE (log 8): bytes of an erased or never written incident slot header that no rule states, by draw and byte position. -/
opaque Config.erasedHeaderByte : Nat → Nat → Byte

/-- FREE VALUE (log 9): the bytes a slot's body holds after "clears the body" (R142), by draw and position. -/
opaque Config.clearedBodyByte : Nat → Nat → Byte

/-- FREE VALUE (log 10): the body bytes of a seal that power loss cut off before they were written (R132), by draw and position. -/
opaque Config.unwrittenBodyByte : Nat → Nat → Byte

/-- FREE VALUE (log 10): the two CRC bytes of a sealed header before step 3 of the seal has written them (R132), by draw and byte. -/
opaque Config.unwrittenCrcByte : Nat → Nat → Byte

/-- FREE VALUE (log 11): the sequence number that follows 4294967295; R127 and R134 say that the number advances by one and R126 bounds it. -/
opaque Config.sequenceAfterLast : Nat → Word32

end Sys2Proof
end

