-- ==== Sys2Proof/Syntax.lean ====
section
/-! DEFINITION. The commands of the JF-640: one constructor of Instr for each row of the table of operations and events, with what the command carries. -/

namespace Sys2Proof

/-- The three pressure transducers whose health the arbiter hears of (R26). -/
inductive Transducer where
  | bcA | bcB | pipe
  deriving DecidableEq, Repr

/-- A driver channel's reported health (R151): OK, OPEN or SHORT. -/
inductive DriverHealth where
  | ok | openLoad | shortLoad
  deriving DecidableEq, Repr

/-- Whether an axle's tachometer is in use (R76). -/
inductive TachState where
  | healthy | faulted
  deriving DecidableEq, Repr

/-- The raisers of the emergency entry S8 (R17). -/
inductive EmergencyRaiser where
  | cab | supervision | line | pipe
  deriving DecidableEq, Repr

/-- The raisers of the link-loss penalty entry S6 (R23). -/
inductive LossRaiser where
  | cabLost | supervisionLost
  deriving DecidableEq, Repr

/-- The detail of a PENALTY_ACCEPTED trigger (R25): S5 with raiser NONE, or S6 with the raiser that brought it out of IDLE. -/
inductive PenaltyCause where
  | s5
  | s6 (r : LossRaiser)
  deriving DecidableEq, Repr

/-- A trigger with its detail (R124). -/
inductive Trigger where
  | emergencyAccepted (first : EmergencyRaiser)
  | penaltyAccepted (cause : PenaltyCause)
  | persistentSlide (axle : Axle)
  | effortDeficit (deficit : Nat)
  | linkLost (port : Master)
  | freeze (tag : Word16)
  | matched (slot : Fin 4)
  | pressureFault (which : Transducer)
  | tachFault (axle : Axle)
  | valveFault (channel : Fin 8)
  | responseFault (truck : Truck)
  deriving DecidableEq, Repr

/-- One axle's four bytes of a CAPABILITY REPORT, as received (R164, R178). -/
structure AxleReport where
  available : Word16
  achieved : Word16
  deriving DecidableEq, Repr

/-- What one pulse channel's sensor gave over the window that expires: the edges counted since the previous expiry, and the health at the expiry (R152). -/
structure PulseInput where
  edges : Nat
  healthy : Bool
  deriving DecidableEq, Repr

/-- One axle's part of a window completion (R87): `held` is the number of speeds the history held before the window appended its own. -/
structure AxleResult where
  tach : TachState
  speed : Nat
  decel : Int
  held : Nat
  deriving DecidableEq, Repr

/-- The window completion the axle monitor delivers to the slide controller (R87). -/
structure WindowCompletion where
  axles : PerAxle AxleResult
  reference : Nat
  deriving DecidableEq, Repr

/-- One received character: its eight data bits, and whether its stop bit was found low (R179). -/
structure LineChar where
  data : Byte
  framingError : Bool
  deriving DecidableEq, Repr

/-- How far the NV operation in flight had come when power was lost (R132, R139, R140, R142): whether the header write it was making had completed; how many bytes of a sealed body had been written, or of an erased body cleared; and whether the slot CRC had been written. -/
structure NvProgress where
  headerWritten : Bool
  bodyBytes : Nat
  crcWritten : Bool
  deriving DecidableEq, Repr

/-- The loop currents of A0 to A5 in microamperes (R153). -/
abbrev LoopCurrents := Vector Nat 6

/-- The commands and events of the part, in the order of the table. A request or report carries the fields of its payload as received (R178); a timed event carries what the field channels give it at that moment; an event delivered by one block to another carries what that block hands over. -/
inductive Instr where
  /-- R9. The three handle efforts, and payload byte 6: control active, emergency, bail-off, penalty acknowledge, direction. -/
  | cabDemand (dynamic independent automatic : Word16) (flags : Byte)
  /-- R21, received on a port. -/
  | releaseEmergency (port : PortId)
  /-- R175, received on a port. -/
  | ledgerQuery (port : PortId)
  /-- R164. -/
  | capabilityReport (axles : PerAxle AxleReport) (cutOut : Byte) (hold : Word16)
  /-- R165. -/
  | alive
  /-- R54. -/
  | withdrawElectric
  /-- R55. -/
  | resumeElectric
  /-- R14. -/
  | intervene (effort : Word16)
  /-- R15. -/
  | penalty (effort : Word16)
  /-- R16. -/
  | releasePenalty
  /-- R17. -/
  | emergency
  /-- R165. -/
  | freeze (tag : Word16)
  /-- R185. -/
  | identify
  /-- R181. -/
  | readConfig (code : Byte)
  /-- R182. -/
  | writeConfig (code : Byte) (value : Word32)
  /-- R182. -/
  | confirmConfig
  /-- R154, with the loop currents at that moment, since an analog channel converts continually (R153). -/
  | readChannel (channel : Byte) (loops : LoopCurrents)
  /-- R156. -/
  | assignChannel (channel function : Byte)
  /-- R155. -/
  | driveChannel (channel state : Byte)
  /-- R136. -/
  | listIncidents
  /-- R137. -/
  | readIncident (slot : Byte) (expected : Word32) (part : Byte)
  /-- R138. -/
  | lockIncident (slot : Byte)
  /-- R140. -/
  | unlockIncident (slot : Byte)
  /-- R141. -/
  | eraseIncident (slot : Byte)
  /-- R122. -/
  | setMatch (slot enabled condition axle : Byte) (threshold : Word16)
  /-- R188. -/
  | restart
  /-- R161. A received frame that is not an accepted report or request of its port. -/
  | unknownKind (port : PortId) (kind : Byte) (payload : List Byte)
  /-- R160. The characters, arriving with no gap between them, of a frame that is discarded. -/
  | frameDiscarded (port : PortId) (chars : List LineChar)
  /-- R160. Characters that arrive and are then followed by a gap of more than 2 ms. -/
  | intercharacterGapTimeout (port : PortId) (chars : List LineChar)
  /-- R163. -/
  | transmissionEnds (port : PortId)
  /-- R170. -/
  | freshnessExpiry (port : Master)
  /-- R18. -/
  | emergencyHoldExpiry
  /-- R17. -/
  | emergencyLineAsserted
  /-- R19. -/
  | emergencyLineReleased
  /-- R17. -/
  | brakePipeConditionBegun
  /-- R19. -/
  | brakePipeConditionCleared
  /-- R26. -/
  | transducerHealthChange (which : Transducer) (healthy : Bool)
  /-- R22. -/
  | standstillChange (set : Bool)
  /-- R52. -/
  | clipRequest (axle : Axle)
  /-- R53. -/
  | emergencyNotice
  /-- R31. -/
  | blendPeriod
  /-- R58, with the loop currents at the expiry. -/
  | truckSample (truck : Truck) (loops : LoopCurrents)
  /-- R68, with the loop currents at the expiry. -/
  | pipeSample (loops : LoopCurrents)
  /-- R77, with what the eight pulse channels counted. -/
  | axleWindow (pulses : Vector PulseInput 8)
  /-- R92. -/
  | slideWindow (completion : WindowCompletion)
  /-- R110. -/
  | s8LeavesIdle
  /-- R118. -/
  | recorderSample
  /-- R125. -/
  | triggerArrival (trigger : Trigger)
  /-- R132. -/
  | sealComplete
  /-- R182. -/
  | configurationStoreComplete
  /-- R157. -/
  | assignmentStoreComplete
  /-- R139. -/
  | lockWriteComplete
  /-- R140. -/
  | unlockWriteComplete
  /-- R142. -/
  | eraseHeaderWritten
  /-- R142. -/
  | eraseComplete
  /-- R151. -/
  | driverHealthChange (channel : Fin 8) (health : DriverHealth)
  /-- R188. -/
  | restartLineAsserted
  /-- R189. -/
  | warmRestart
  /-- R184. -/
  | powerOnReset
  /-- R187, with how far the operation in flight had come. -/
  | powerLoss (progress : NvProgress)
  /-- R188. -/
  | restartLineReleased
  /-- R132. -/
  | sealedStateWritten
  deriving DecidableEq, Repr

end Sys2Proof
end

