-- ==== Sys2Proof/Machine/Kinds.lean ====
section
/-! DEFINITION. The frame kinds and result codes of section 8.10, and which port accepts which kind (section 8.4). -/

namespace Sys2Proof.Machine

/-- Result codes of a reply (section 8.10). -/
inductive Result where
  | ok | busy | wrongPort | unknownKind | badLength | notStandstill | range | inconsistent | required
  | kindMismatch | owned | locked | lockLimit | notSealed | changed | tooEarly | notRaised
  deriving DecidableEq, Repr

/-- The byte that a result is sent as (section 8.10). -/
def Result.code : Result → Byte
  | .ok => 0 | .busy => 1 | .wrongPort => 2 | .unknownKind => 3 | .badLength => 4 | .notStandstill => 5
  | .range => 6 | .inconsistent => 7 | .required => 8 | .kindMismatch => 9 | .owned => 10 | .locked => 11
  | .lockLimit => 12 | .notSealed => 13 | .changed => 14 | .tooEarly => 15 | .notRaised => 16

/-- The code of each kind (section 8.10). -/
def kindCapabilityReport : Byte := 0x01
def kindAlive : Byte := 0x02
def kindCabDemand : Byte := 0x10
def kindReleaseEmergency : Byte := 0x11
def kindLedgerQuery : Byte := 0x12
def kindWithdrawElectric : Byte := 0x20
def kindResumeElectric : Byte := 0x21
def kindIntervene : Byte := 0x30
def kindPenalty : Byte := 0x31
def kindReleasePenalty : Byte := 0x32
def kindEmergency : Byte := 0x33
def kindFreeze : Byte := 0x34
def kindIdentify : Byte := 0x40
def kindReadConfig : Byte := 0x41
def kindWriteConfig : Byte := 0x42
def kindConfirmConfig : Byte := 0x43
def kindReadChannel : Byte := 0x44
def kindAssignChannel : Byte := 0x45
def kindDriveChannel : Byte := 0x46
def kindListIncidents : Byte := 0x47
def kindReadIncident : Byte := 0x48
def kindLockIncident : Byte := 0x49
def kindUnlockIncident : Byte := 0x4A
def kindEraseIncident : Byte := 0x4B
def kindSetMatch : Byte := 0x4C
def kindRestart : Byte := 0x4D
def kindReply : Byte := 0x80
def kindEffortOrder : Byte := 0x81

/-- The kinds 00 to 0F, reserved for reports (R161, step 2). -/
def isReportCode (kind : Byte) : Bool := kind.toNat < 16

/-- The payload length of a report kind (section 8.10). -/
def reportLength (kind : Byte) : Option Nat :=
  if kind = kindCapabilityReport then some 27
  else if kind = kindAlive then some 0
  else none

/-- The payload length of a request kind, and none where the kind is no request kind (section 8.10). -/
def requestLength (kind : Byte) : Option Nat :=
  if kind = kindCabDemand then some 7
  else if kind = kindReleaseEmergency ∨ kind = kindLedgerQuery then some 0
  else if kind = kindWithdrawElectric ∨ kind = kindResumeElectric then some 0
  else if kind = kindIntervene ∨ kind = kindPenalty ∨ kind = kindFreeze then some 2
  else if kind = kindReleasePenalty ∨ kind = kindEmergency then some 0
  else if kind = kindIdentify ∨ kind = kindConfirmConfig ∨ kind = kindListIncidents ∨ kind = kindRestart then some 0
  else if kind = kindReadConfig ∨ kind = kindReadChannel ∨ kind = kindLockIncident
      ∨ kind = kindUnlockIncident ∨ kind = kindEraseIncident then some 1
  else if kind = kindWriteConfig then some 5
  else if kind = kindAssignChannel ∨ kind = kindDriveChannel then some 2
  else if kind = kindReadIncident ∨ kind = kindSetMatch then some 6
  else none

/-- Whether a port accepts a report or request kind (section 8.4). -/
def accepts (port : PortId) (kind : Byte) : Bool :=
  match port with
  | .cab => kind = kindCabDemand || kind = kindReleaseEmergency || kind = kindLedgerQuery
  | .traction => kind = kindCapabilityReport || kind = kindWithdrawElectric || kind = kindResumeElectric
      || kind = kindLedgerQuery
  | .supervision => kind = kindAlive || kind = kindIntervene || kind = kindPenalty || kind = kindReleasePenalty
      || kind = kindEmergency || kind = kindReleaseEmergency || kind = kindFreeze || kind = kindLedgerQuery
  | .service => kind = kindLedgerQuery || (0x40 ≤ kind.toNat && kind.toNat ≤ 0x4D)

/-- Whether a received frame is a report or request that its port accepts, with the length of its kind. -/
def framed (port : PortId) (kind : Byte) (length : Nat) : Bool :=
  accepts port kind && (reportLength kind = some length || requestLength kind = some length)

end Sys2Proof.Machine
end

