-- ==== Sys2Proof/Machine/Operands.lean ====
section
/-! DEFINITION. The operand forms of the commands and the integer helpers of the rules: fields of a payload, bit flags, clamps, roundings and the conversion of a loop current. -/

namespace Sys2Proof.Machine

/-- The two bytes of a field, most significant first (R178). -/
def bytes16 (w : Word16) : List Byte := [w.extractLsb' 8 8, w.extractLsb' 0 8]

/-- The four bytes of a field, most significant first (R178). -/
def bytes32 (w : Word32) : List Byte :=
  [w.extractLsb' 24 8, w.extractLsb' 16 8, w.extractLsb' 8 8, w.extractLsb' 0 8]

/-- A number sent in one byte. -/
def byteOf (n : Nat) : Byte := BitVec.ofNat 8 n

/-- A number sent in two bytes. -/
def two (n : Nat) : List Byte := bytes16 (BitVec.ofNat 16 n)

/-- A number sent in four bytes. -/
def four (n : Nat) : List Byte := bytes32 (BitVec.ofNat 32 n)

/-- The number held by a list of bytes, most significant first. -/
def numberOf (bs : List Byte) : Nat := bs.foldl (fun n b => n * 256 + b.toNat) 0

/-- The number held in `n` bytes from a position on; bytes past the end read 0. -/
def numberAt (bs : List Byte) (pos n : Nat) : Nat := numberOf ((bs.drop pos).take n)

/-- One bit of a flag byte, as the number it adds. -/
def bitFlag (b : Bool) (bit : Nat) : Nat := if b then 2 ^ bit else 0

/-- The largest effort of a demand source (R1). -/
def maxEffort : Nat := 6000

/-- The largest effort of an axle (R32). -/
def maxAxleEffort : Nat := 1000

/-- A live effort as it is taken (R169): clamped to 6000. -/
def takenEffort (w : Word16) : Nat := min w.toNat maxEffort

/-- Whether the clamp of R169 changes a live effort. -/
def effortClamped (w : Word16) : Bool := maxEffort < w.toNat

/-- The five indications of payload byte 6 of a CAB DEMAND (R9, R178). -/
def controlActive (flags : Byte) : Bool := flags.getLsbD 7
def emergencyFlag (flags : Byte) : Bool := flags.getLsbD 6
def bailFlag (flags : Byte) : Bool := flags.getLsbD 5
def acknowledgeFlag (flags : Byte) : Bool := flags.getLsbD 4

/-- The direction held by the arbiter (R9). -/
inductive Direction where
  | neutral | forward | reverse
  deriving DecidableEq, Repr

/-- Bits 1 and 0 of payload byte 6 of a CAB DEMAND; 3 is taken as NEUTRAL (R169, R178). -/
def directionOf (flags : Byte) : Direction :=
  match flags.getLsbD 1, flags.getLsbD 0 with
  | false, true => .forward
  | true, false => .reverse
  | _, _ => .neutral

/-- `a` divided by `b` with the result taken up (00_scope.md, Arithmetic). -/
def ceilDiv (a b : Nat) : Nat := (a + b - 1) / b

/-- A signed value divided by a step, rounded half away from zero (R120). -/
def roundHalfAway (v : Int) (step : Nat) : Int :=
  let m : Int := ((2 * v.natAbs + step) / (2 * step) : Nat)
  if v < 0 then -m else m

/-- A signed value saturated to a range, and whether that changed it (R120). -/
def saturate (lo hi v : Int) : Int × Bool :=
  if v < lo then (lo, true) else if hi < v then (hi, true) else (v, false)

/-- One conversion of an analog channel (R153): the value in kPa and whether the loop is healthy. -/
structure Conversion where
  value : Nat
  healthy : Bool
  deriving DecidableEq, Repr

/-- The conversion of a loop current in microamperes (R153): healthy from 3.6 mA to 21.0 mA, 1000 kPa over 16 mA from 4 mA on. -/
def convert (microamps : Nat) : Conversion :=
  if 3600 ≤ microamps ∧ microamps ≤ 21000 then
    ⟨min ((microamps - 4000) * 1000 / 16000) 1000, true⟩
  else ⟨0, false⟩

end Sys2Proof.Machine
end

