-- ==== Sys2Proof/Machine/Crc.lean ====
section
/-! DEFINITION. The one 16-bit cyclic redundancy check of the part (R143). -/

namespace Sys2Proof.Machine

/-- One shift of the CRC register, combined with the polynomial when a 1 leaves the top (R143). -/
def crcShift (r : Word16) : Word16 :=
  if r.msb then (r <<< 1) ^^^ 0x1021#16 else r <<< 1

/-- One byte taken into the CRC register (R143). -/
def crcByte (r : Word16) (b : Byte) : Word16 :=
  crcShift (crcShift (crcShift (crcShift (crcShift (crcShift (crcShift (crcShift
    (r ^^^ (b.setWidth 16 <<< 8)))))))))

/-- The CRC of a sequence of bytes (R143). -/
def crc16 (bytes : List Byte) : Word16 := bytes.foldl crcByte 0xFFFF#16

end Sys2Proof.Machine
end

