-- ==== Sys2Proof/Machine/Assembly.lean ====
section
/-! DEFINITION. The receive assembly of a port, which builds frames out of received characters (R160). -/

namespace Sys2Proof.Machine

/-- The start mark of every frame (section 8.1). -/
def startMark : Byte := 0xA5

/-- The longest payload accepted from a partner (R159). -/
def longestPayload : Nat := 120

/-- The five states of a receive assembly with what each has stored (R160). `payload` counts the characters still to come, and keeps those received with the latest first. `check` keeps the first CRC byte once it has come. -/
inductive Assembly where
  | hunt
  | kind
  | length (kind : Byte)
  | payload (kind : Byte) (length : Byte) (left : Nat) (got : List Byte)
  | check (kind : Byte) (length : Byte) (payload : List Byte) (first : Option Byte)
  deriving DecidableEq, Repr

/-- A received frame: one whose CRC agreed (R160). -/
structure Received where
  kind : Byte
  payload : List Byte
  deriving DecidableEq, Repr

/-- The CRC bytes agree with the CRC over kind, length and payload (R160). -/
def crcAgrees (kind length : Byte) (payload : List Byte) (first second : Byte) : Bool :=
  crc16 (kind :: length :: payload) = first ++ second

/-- One character taken by a receive assembly: its next state, and the frame it completes if its CRC agrees (R160). DEDUCED: a character with a framing error that comes in HUNT is dropped, whatever its value, so that an A5 with one begins no frame (log 40). -/
def Assembly.feed (a : Assembly) (c : LineChar) : Assembly × Option Received :=
  if c.framingError then (.hunt, none)
  else
    match a with
    | .hunt => (if c.data = startMark then .kind else .hunt, none)
    | .kind => (.length c.data, none)
    | .length k =>
      if longestPayload < c.data.toNat then (.hunt, none)
      else if c.data = 0 then (.check k c.data [] none, none)
      else (.payload k c.data c.data.toNat [], none)
    | .payload k n left got =>
      if left ≤ 1 then (.check k n (c.data :: got).reverse none, none)
      else (.payload k n (left - 1) (c.data :: got), none)
    | .check k n p none => (.check k n p (some c.data), none)
    | .check k n p (some hi) =>
      (.hunt, if crcAgrees k n p hi c.data then some ⟨k, p⟩ else none)

/-- Characters taken one after another: the last state, and whether some frame was received among them. -/
def Assembly.feedAll : Assembly → List LineChar → Assembly × Bool
  | a, [] => (a, false)
  | a, c :: cs =>
    let r := Assembly.feedAll (a.feed c).1 cs
    (r.1, (a.feed c).2.isSome || r.2)

/-- The characters of a frame as it goes on the line (R159). -/
def wireBytes (kind : Byte) (payload : List Byte) : List Byte :=
  let length : Byte := BitVec.ofNat 8 payload.length
  let crc := crc16 (kind :: length :: payload)
  startMark :: kind :: length :: payload ++ [crc.extractLsb' 8 8, crc.extractLsb' 0 8]

end Sys2Proof.Machine
end

