-- ==== Sys2Proof/WellFormed.lean ====
section
/-! DEFINITION. Which commands are well formed: those that the row of the table they stand for can be. -/

namespace Sys2Proof

/-- An axle result of a window completion within the ranges of R76: a FAULTED axle has speed, deceleration and history empty (R81). -/
def AxleResult.wellFormed (r : AxleResult) : Bool :=
  match r.tach with
  | .faulted => r.speed = 0 && r.decel = 0 && r.held = 0
  | .healthy => r.speed ≤ 1600 && r.held ≤ 8 && (-20000 : Int) ≤ r.decel && r.decel ≤ 20000

/-- A trigger whose detail lies in its range (R124). -/
def Trigger.wellFormed : Trigger → Bool
  | .effortDeficit d => d ≤ 6000
  | _ => true

/-- Whether a command is one that its row can be. -/
def Instr.wellFormed : Instr → Bool
  | .releaseEmergency p => p = .cab || p = .supervision
  | .unknownKind p k payload =>
    payload.length ≤ Machine.longestPayload && !(Machine.framed p k payload.length)
  | .frameDiscarded _ chars => !(Machine.Assembly.hunt.feedAll chars).2
  | .intercharacterGapTimeout _ chars => !(Machine.Assembly.hunt.feedAll chars).2
  | .slideWindow c => c.reference ≤ 1600 && c.axles.toList.all AxleResult.wellFormed
  | .triggerArrival t => t.wellFormed
  | _ => true

end Sys2Proof
end

