-- ==== Sys2Proof/Decode.lean ====
section
/-! DEFINITION. Which command a received frame is (sections 8.4, 8.9 and 8.10), and the frame a request or report is sent as. The table gives no bits, so a table word spells no command. -/

namespace Sys2Proof

/-- The rows of the table give no bits: a word spells none of them (log 2). -/
def decodeTableWord (_nbits _w : Nat) : Option Instr := none

/-- The reports of the six axles and the rest of a CAPABILITY REPORT payload. -/
def capabilityOf (p : List Byte) : Instr :=
  let at16 := fun i => (p.getD i 0 ++ p.getD (i + 1) 0 : Word16)
  let axle := fun i => (⟨at16 i, at16 (i + 2)⟩ : AxleReport)
  .capabilityReport ⟨axle 0, axle 4, axle 8, axle 12, axle 16, axle 20⟩ (p.getD 24 0) (at16 25)

/-- The report or request of a kind with the payload of its length (section 8.9), whichever port it comes on. -/
def frameOf (loops : LoopCurrents) (port : PortId) (kind : Byte) (payload : List Byte) : Option Instr :=
  if kind = Machine.kindCapabilityReport then
    if payload.length = 27 then some (capabilityOf payload) else none
  else
    match payload with
    | [] =>
      if kind = Machine.kindAlive then some .alive
      else if kind = Machine.kindReleaseEmergency then some (.releaseEmergency port)
      else if kind = Machine.kindLedgerQuery then some (.ledgerQuery port)
      else if kind = Machine.kindWithdrawElectric then some .withdrawElectric
      else if kind = Machine.kindResumeElectric then some .resumeElectric
      else if kind = Machine.kindReleasePenalty then some .releasePenalty
      else if kind = Machine.kindEmergency then some .emergency
      else if kind = Machine.kindIdentify then some .identify
      else if kind = Machine.kindConfirmConfig then some .confirmConfig
      else if kind = Machine.kindListIncidents then some .listIncidents
      else if kind = Machine.kindRestart then some .restart
      else none
    | [a] =>
      if kind = Machine.kindReadConfig then some (.readConfig a)
      else if kind = Machine.kindReadChannel then some (.readChannel a loops)
      else if kind = Machine.kindLockIncident then some (.lockIncident a)
      else if kind = Machine.kindUnlockIncident then some (.unlockIncident a)
      else if kind = Machine.kindEraseIncident then some (.eraseIncident a)
      else none
    | [a, b] =>
      if kind = Machine.kindIntervene then some (.intervene (a ++ b))
      else if kind = Machine.kindPenalty then some (.penalty (a ++ b))
      else if kind = Machine.kindFreeze then some (.freeze (a ++ b))
      else if kind = Machine.kindAssignChannel then some (.assignChannel a b)
      else if kind = Machine.kindDriveChannel then some (.driveChannel a b)
      else none
    | [a, b, c, d, e] =>
      if kind = Machine.kindWriteConfig then some (.writeConfig a (b ++ c ++ d ++ e)) else none
    | [a, b, c, d, e, f] =>
      if kind = Machine.kindReadIncident then some (.readIncident a (b ++ c ++ d ++ e) f)
      else if kind = Machine.kindSetMatch then some (.setMatch a b c d (e ++ f))
      else none
    | [a, b, c, d, e, f, g] =>
      if kind = Machine.kindCabDemand then some (.cabDemand (a ++ b) (c ++ d) (e ++ f) g) else none
    | _ => none

/-- The command that a received frame is, and none where the port does not accept it or its length is wrong (R161). `loops` are the loop currents at the reception, which a READ CHANNEL needs. -/
def decodeFrame (loops : LoopCurrents) (port : PortId) (kind : Byte) (payload : List Byte) : Option Instr :=
  if Machine.accepts port kind then frameOf loops port kind payload else none

/-- The port, kind and payload that a report or request is sent as (sections 8.9 and 8.10); none for a command that is no frame. -/
def encodeFrame : Instr → Option (PortId × Byte × List Byte)
  | .cabDemand d i a flags =>
    some (.cab, Machine.kindCabDemand, Machine.bytes16 d ++ Machine.bytes16 i ++ Machine.bytes16 a ++ [flags])
  | .releaseEmergency p => some (p, Machine.kindReleaseEmergency, [])
  | .ledgerQuery p => some (p, Machine.kindLedgerQuery, [])
  | .capabilityReport axles cutOut hold =>
    some (.traction, Machine.kindCapabilityReport,
      axles.toList.flatMap (fun r => Machine.bytes16 r.available ++ Machine.bytes16 r.achieved)
        ++ [cutOut] ++ Machine.bytes16 hold)
  | .alive => some (.supervision, Machine.kindAlive, [])
  | .withdrawElectric => some (.traction, Machine.kindWithdrawElectric, [])
  | .resumeElectric => some (.traction, Machine.kindResumeElectric, [])
  | .intervene e => some (.supervision, Machine.kindIntervene, Machine.bytes16 e)
  | .penalty e => some (.supervision, Machine.kindPenalty, Machine.bytes16 e)
  | .releasePenalty => some (.supervision, Machine.kindReleasePenalty, [])
  | .emergency => some (.supervision, Machine.kindEmergency, [])
  | .freeze t => some (.supervision, Machine.kindFreeze, Machine.bytes16 t)
  | .identify => some (.service, Machine.kindIdentify, [])
  | .readConfig c => some (.service, Machine.kindReadConfig, [c])
  | .writeConfig c v => some (.service, Machine.kindWriteConfig, c :: Machine.bytes32 v)
  | .confirmConfig => some (.service, Machine.kindConfirmConfig, [])
  | .readChannel c _ => some (.service, Machine.kindReadChannel, [c])
  | .assignChannel c f => some (.service, Machine.kindAssignChannel, [c, f])
  | .driveChannel c st => some (.service, Machine.kindDriveChannel, [c, st])
  | .listIncidents => some (.service, Machine.kindListIncidents, [])
  | .readIncident sl e p => some (.service, Machine.kindReadIncident, sl :: Machine.bytes32 e ++ [p])
  | .lockIncident sl => some (.service, Machine.kindLockIncident, [sl])
  | .unlockIncident sl => some (.service, Machine.kindUnlockIncident, [sl])
  | .eraseIncident sl => some (.service, Machine.kindEraseIncident, [sl])
  | .setMatch sl en co ax th => some (.service, Machine.kindSetMatch, [sl, en, co, ax] ++ Machine.bytes16 th)
  | .restart => some (.service, Machine.kindRestart, [])
  | .unknownKind .. | .frameDiscarded .. | .intercharacterGapTimeout .. | .transmissionEnds .. | .freshnessExpiry ..
  | .emergencyHoldExpiry | .emergencyLineAsserted | .emergencyLineReleased | .brakePipeConditionBegun
  | .brakePipeConditionCleared | .transducerHealthChange .. | .standstillChange .. | .clipRequest .. | .emergencyNotice
  | .blendPeriod | .truckSample .. | .pipeSample .. | .axleWindow .. | .slideWindow .. | .s8LeavesIdle | .recorderSample
  | .triggerArrival .. | .sealComplete | .configurationStoreComplete | .assignmentStoreComplete | .lockWriteComplete
  | .unlockWriteComplete | .eraseHeaderWritten | .eraseComplete | .driverHealthChange .. | .restartLineAsserted
  | .warmRestart | .powerOnReset | .powerLoss .. | .restartLineReleased | .sealedStateWritten => none

end Sys2Proof
end

