-- ==== Sys2Proof/Machine/Params.lean ====
section
/-! DEFINITION. The 49 parameters of the configuration set (section 9.1): their codes, ranges and defaults, the live set, and the cross constraints. -/

namespace Sys2Proof.Machine

/-- A parameter of the table of section 9.1. -/
inductive Param where
  | wheelDiameter (axle : Axle)
  | truckGain (truck : Truck)
  | tachPpr
  | pReturn
  | pCap
  | pEmer
  | pressureBand
  | eRise
  | eFall
  | airRateService
  | airRateRelease
  | penaltyEffort
  | restraintEffort
  | emergencyEffort
  | emergencyHoldMs
  | refDecelLimit
  | refRiseLimit
  | slideMinSpeed
  | creepWarn
  | creepSlide
  | creepRecover
  | decelWarn
  | decelSlide
  | suspectWindows
  | slideCutPct
  | slideFloor
  | restoreStep
  | correctionBudget
  | episodeQuietMs
  | maxReleaseMs
  | emerReleaseMs
  | sandMinSpeed
  | sandMinOnMs
  | deficitThreshold
  | deficitTimeMs
  | pipeDropRate
  | pipeEmerLevel
  | pipeRecharge
  | preSamples
  | postSamples
  | cabTimeout
  | tractionTimeout
  | supervisionTimeout
  deriving DecidableEq, Repr

/-- A configuration set: one value for each parameter (R180). -/
structure ConfigSet where
  wheelDiameter : PerAxle Nat
  truckGain : PerTruck Nat
  tachPpr : Nat
  pReturn : Nat
  pCap : Nat
  pEmer : Nat
  pressureBand : Nat
  eRise : Nat
  eFall : Nat
  airRateService : Nat
  airRateRelease : Nat
  penaltyEffort : Nat
  restraintEffort : Nat
  emergencyEffort : Nat
  emergencyHoldMs : Nat
  refDecelLimit : Nat
  refRiseLimit : Nat
  slideMinSpeed : Nat
  creepWarn : Nat
  creepSlide : Nat
  creepRecover : Nat
  decelWarn : Nat
  decelSlide : Nat
  suspectWindows : Nat
  slideCutPct : Nat
  slideFloor : Nat
  restoreStep : Nat
  correctionBudget : Nat
  episodeQuietMs : Nat
  maxReleaseMs : Nat
  emerReleaseMs : Nat
  sandMinSpeed : Nat
  sandMinOnMs : Nat
  deficitThreshold : Nat
  deficitTimeMs : Nat
  pipeDropRate : Nat
  pipeEmerLevel : Nat
  pipeRecharge : Nat
  preSamples : Nat
  postSamples : Nat
  cabTimeout : Nat
  tractionTimeout : Nat
  supervisionTimeout : Nat
  deriving DecidableEq, Repr

/-- The value of one parameter in a set. -/
def ConfigSet.get (c : ConfigSet) : Param → Nat
  | .wheelDiameter i => c.wheelDiameter.get i
  | .truckGain t => c.truckGain.get t
  | .tachPpr => c.tachPpr
  | .pReturn => c.pReturn
  | .pCap => c.pCap
  | .pEmer => c.pEmer
  | .pressureBand => c.pressureBand
  | .eRise => c.eRise
  | .eFall => c.eFall
  | .airRateService => c.airRateService
  | .airRateRelease => c.airRateRelease
  | .penaltyEffort => c.penaltyEffort
  | .restraintEffort => c.restraintEffort
  | .emergencyEffort => c.emergencyEffort
  | .emergencyHoldMs => c.emergencyHoldMs
  | .refDecelLimit => c.refDecelLimit
  | .refRiseLimit => c.refRiseLimit
  | .slideMinSpeed => c.slideMinSpeed
  | .creepWarn => c.creepWarn
  | .creepSlide => c.creepSlide
  | .creepRecover => c.creepRecover
  | .decelWarn => c.decelWarn
  | .decelSlide => c.decelSlide
  | .suspectWindows => c.suspectWindows
  | .slideCutPct => c.slideCutPct
  | .slideFloor => c.slideFloor
  | .restoreStep => c.restoreStep
  | .correctionBudget => c.correctionBudget
  | .episodeQuietMs => c.episodeQuietMs
  | .maxReleaseMs => c.maxReleaseMs
  | .emerReleaseMs => c.emerReleaseMs
  | .sandMinSpeed => c.sandMinSpeed
  | .sandMinOnMs => c.sandMinOnMs
  | .deficitThreshold => c.deficitThreshold
  | .deficitTimeMs => c.deficitTimeMs
  | .pipeDropRate => c.pipeDropRate
  | .pipeEmerLevel => c.pipeEmerLevel
  | .pipeRecharge => c.pipeRecharge
  | .preSamples => c.preSamples
  | .postSamples => c.postSamples
  | .cabTimeout => c.cabTimeout
  | .tractionTimeout => c.tractionTimeout
  | .supervisionTimeout => c.supervisionTimeout

/-- A set with one parameter's value replaced. -/
def ConfigSet.put (c : ConfigSet) (p : Param) (v : Nat) : ConfigSet :=
  match p with
  | .wheelDiameter i => { c with wheelDiameter := c.wheelDiameter.set i v }
  | .truckGain t => { c with truckGain := c.truckGain.set t v }
  | .tachPpr => { c with tachPpr := v }
  | .pReturn => { c with pReturn := v }
  | .pCap => { c with pCap := v }
  | .pEmer => { c with pEmer := v }
  | .pressureBand => { c with pressureBand := v }
  | .eRise => { c with eRise := v }
  | .eFall => { c with eFall := v }
  | .airRateService => { c with airRateService := v }
  | .airRateRelease => { c with airRateRelease := v }
  | .penaltyEffort => { c with penaltyEffort := v }
  | .restraintEffort => { c with restraintEffort := v }
  | .emergencyEffort => { c with emergencyEffort := v }
  | .emergencyHoldMs => { c with emergencyHoldMs := v }
  | .refDecelLimit => { c with refDecelLimit := v }
  | .refRiseLimit => { c with refRiseLimit := v }
  | .slideMinSpeed => { c with slideMinSpeed := v }
  | .creepWarn => { c with creepWarn := v }
  | .creepSlide => { c with creepSlide := v }
  | .creepRecover => { c with creepRecover := v }
  | .decelWarn => { c with decelWarn := v }
  | .decelSlide => { c with decelSlide := v }
  | .suspectWindows => { c with suspectWindows := v }
  | .slideCutPct => { c with slideCutPct := v }
  | .slideFloor => { c with slideFloor := v }
  | .restoreStep => { c with restoreStep := v }
  | .correctionBudget => { c with correctionBudget := v }
  | .episodeQuietMs => { c with episodeQuietMs := v }
  | .maxReleaseMs => { c with maxReleaseMs := v }
  | .emerReleaseMs => { c with emerReleaseMs := v }
  | .sandMinSpeed => { c with sandMinSpeed := v }
  | .sandMinOnMs => { c with sandMinOnMs := v }
  | .deficitThreshold => { c with deficitThreshold := v }
  | .deficitTimeMs => { c with deficitTimeMs := v }
  | .pipeDropRate => { c with pipeDropRate := v }
  | .pipeEmerLevel => { c with pipeEmerLevel := v }
  | .pipeRecharge => { c with pipeRecharge := v }
  | .preSamples => { c with preSamples := v }
  | .postSamples => { c with postSamples := v }
  | .cabTimeout => { c with cabTimeout := v }
  | .tractionTimeout => { c with tractionTimeout := v }
  | .supervisionTimeout => { c with supervisionTimeout := v }

/-- The defaults of section 9.1. -/
def ConfigSet.defaults : ConfigSet where
  wheelDiameter := ⟨1067, 1067, 1067, 1067, 1067, 1067⟩
  truckGain := ⟨1010, 1010⟩
  tachPpr := 120
  pReturn := 40
  pCap := 420
  pEmer := 450
  pressureBand := 8
  eRise := 20
  eFall := 40
  airRateService := 30
  airRateRelease := 40
  penaltyEffort := 2400
  restraintEffort := 1800
  emergencyEffort := 6000
  emergencyHoldMs := 60000
  refDecelLimit := 54
  refRiseLimit := 180
  slideMinSpeed := 30
  creepWarn := 80
  creepSlide := 150
  creepRecover := 50
  decelWarn := 90
  decelSlide := 144
  suspectWindows := 5
  slideCutPct := 60
  slideFloor := 250
  restoreStep := 5
  correctionBudget := 8
  episodeQuietMs := 2000
  maxReleaseMs := 3000
  emerReleaseMs := 1500
  sandMinSpeed := 50
  sandMinOnMs := 3000
  deficitThreshold := 200
  deficitTimeMs := 2000
  pipeDropRate := 60
  pipeEmerLevel := 150
  pipeRecharge := 350
  preSamples := 30
  postSamples := 60
  cabTimeout := 300
  tractionTimeout := 100
  supervisionTimeout := 1000

/-- One row of the table of section 9.1: the code that READ CONFIG and WRITE CONFIG carry, the parameter, and its range. -/
structure ParamRow where
  code : Nat
  param : Param
  lo : Nat
  hi : Nat
  deriving DecidableEq, Repr

/-- The table of section 9.1. -/
def paramTable : List ParamRow :=
  [⟨0x00, .wheelDiameter .a1, 900, 1300⟩, ⟨0x01, .wheelDiameter .a2, 900, 1300⟩, ⟨0x02, .wheelDiameter .a3, 900, 1300⟩,
   ⟨0x03, .wheelDiameter .a4, 900, 1300⟩, ⟨0x04, .wheelDiameter .a5, 900, 1300⟩, ⟨0x05, .wheelDiameter .a6, 900, 1300⟩,
   ⟨0x07, .truckGain .a, 256, 4096⟩, ⟨0x08, .truckGain .b, 256, 4096⟩]
  ++ [⟨0x06, .tachPpr, 40, 256⟩, ⟨0x10, .pReturn, 0, 80⟩, ⟨0x11, .pCap, 250, 500⟩]
  ++ [⟨0x12, .pEmer, 300, 520⟩, ⟨0x13, .pressureBand, 2, 30⟩, ⟨0x18, .eRise, 1, 200⟩]
  ++ [⟨0x19, .eFall, 1, 500⟩, ⟨0x1A, .airRateService, 5, 200⟩, ⟨0x1B, .airRateRelease, 5, 300⟩]
  ++ [⟨0x20, .penaltyEffort, 0, 6000⟩, ⟨0x21, .restraintEffort, 0, 6000⟩, ⟨0x22, .emergencyEffort, 0, 6000⟩]
  ++ [⟨0x23, .emergencyHoldMs, 0, 120000⟩, ⟨0x28, .refDecelLimit, 18, 180⟩, ⟨0x29, .refRiseLimit, 18, 360⟩]
  ++ [⟨0x30, .slideMinSpeed, 10, 100⟩, ⟨0x31, .creepWarn, 20, 300⟩, ⟨0x32, .creepSlide, 40, 500⟩]
  ++ [⟨0x33, .creepRecover, 10, 200⟩, ⟨0x34, .decelWarn, 36, 360⟩, ⟨0x35, .decelSlide, 72, 540⟩]
  ++ [⟨0x36, .suspectWindows, 1, 20⟩, ⟨0x37, .slideCutPct, 20, 90⟩, ⟨0x38, .slideFloor, 0, 1000⟩]
  ++ [⟨0x39, .restoreStep, 1, 50⟩, ⟨0x3A, .correctionBudget, 1, 20⟩, ⟨0x3B, .episodeQuietMs, 500, 10000⟩]
  ++ [⟨0x3C, .maxReleaseMs, 500, 10000⟩, ⟨0x3D, .emerReleaseMs, 200, 10000⟩, ⟨0x3E, .sandMinSpeed, 0, 200⟩]
  ++ [⟨0x3F, .sandMinOnMs, 500, 10000⟩, ⟨0x40, .deficitThreshold, 50, 2000⟩, ⟨0x41, .deficitTimeMs, 500, 10000⟩]
  ++ [⟨0x48, .pipeDropRate, 20, 200⟩, ⟨0x49, .pipeEmerLevel, 50, 300⟩, ⟨0x4A, .pipeRecharge, 200, 600⟩]
  ++ [⟨0x50, .preSamples, 10, 50⟩, ⟨0x51, .postSamples, 20, 100⟩, ⟨0x58, .cabTimeout, 150, 1000⟩]
  ++ [⟨0x59, .tractionTimeout, 60, 500⟩, ⟨0x5A, .supervisionTimeout, 300, 5000⟩]

/-- The row of a parameter code; none for a code that is not in the table (R181). -/
def paramRow (code : Byte) : Option ParamRow := paramTable.find? (·.code = code.toNat)

/-- Every value of the set lies in its range (R180). -/
def ConfigSet.inRange (c : ConfigSet) : Bool :=
  paramTable.all fun r => r.lo ≤ c.get r.param && c.get r.param ≤ r.hi

/-- The cross constraints of section 9.1. -/
def ConfigSet.crossOk (c : ConfigSet) : Bool :=
  c.creepRecover < c.creepWarn && c.creepWarn < c.creepSlide
  && c.decelWarn < c.decelSlide
  && c.pReturn < c.pCap && c.pCap ≤ c.pEmer
  && c.emerReleaseMs ≤ c.maxReleaseMs
  && c.pipeEmerLevel < c.pipeRecharge

/-- The set is one the store may hold live (R180). -/
def ConfigSet.legal (c : ConfigSet) : Bool := c.inRange && c.crossOk

end Sys2Proof.Machine
end

