-- ==== Sys2Proof/Machine/Arbiter.lean ====
section
/-! DEFINITION. The demand arbiter (01_demand_sources_and_braking_authority.md): its demand table, authority stack, cab gate and effective demand record, and what each of its events does to them. -/

namespace Sys2Proof.Machine

/-- An entry's standing in the arbitration (R1). -/
inductive Standing where
  | idle | pending | governing | held
  deriving DecidableEq, Repr

/-- One entry of the demand table (R1); the raiser sets of S6 and S8 stand in `Arbiter`. -/
structure Entry where
  state : Standing
  posted : Nat
  inForce : Nat
  stamp : Nat
  deriving DecidableEq, Repr

/-- An entry as every reset leaves it (R1). -/
def Entry.cleared : Entry := ⟨.idle, 0, 0, 0⟩

/-- The raiser set of S8 (R17). -/
structure EmergencyRaisers where
  cab : Bool
  supervision : Bool
  line : Bool
  pipe : Bool
  deriving DecidableEq, Repr

/-- The raiser set of S6 (R23). -/
structure LossRaisers where
  cabLost : Bool
  supervisionLost : Bool
  deriving DecidableEq, Repr

/-- Some raiser is in S8's set. -/
def EmergencyRaisers.any (r : EmergencyRaisers) : Bool := r.cab || r.supervision || r.line || r.pipe

/-- Some raiser is in S6's set. -/
def LossRaisers.any (r : LossRaisers) : Bool := r.cabLost || r.supervisionLost

/-- Whether a raiser is in S8's set. -/
def EmergencyRaisers.has (r : EmergencyRaisers) : EmergencyRaiser → Bool
  | .cab => r.cab | .supervision => r.supervision | .line => r.line | .pipe => r.pipe

/-- S8's set with a raiser added. -/
def EmergencyRaisers.add (r : EmergencyRaisers) : EmergencyRaiser → EmergencyRaisers
  | .cab => { r with cab := true }
  | .supervision => { r with supervision := true }
  | .line => { r with line := true }
  | .pipe => { r with pipe := true }

/-- S8's set with a raiser removed. -/
def EmergencyRaisers.remove (r : EmergencyRaisers) : EmergencyRaiser → EmergencyRaisers
  | .cab => { r with cab := false }
  | .supervision => { r with supervision := false }
  | .line => { r with line := false }
  | .pipe => { r with pipe := false }

/-- The raiser that brought S8 out of IDLE, when its set holds one raiser (R17). -/
def EmergencyRaisers.first (r : EmergencyRaisers) : EmergencyRaiser :=
  if r.cab then .cab else if r.supervision then .supervision else if r.line then .line else .pipe

/-- The raiser that brought S6 out of IDLE, when its set holds one raiser (R25). -/
def LossRaisers.first (r : LossRaisers) : LossRaiser :=
  if r.cabLost then .cabLost else .supervisionLost

/-- The rate profile of the effective demand record (R27). -/
inductive RateProfile where
  | service | emergency
  deriving DecidableEq, Repr

/-- The effective demand record (R27). -/
structure DemandRecord where
  authority : Nat
  governor : Option Source
  blended : Nat
  airFloor : Nat
  electricOnly : Nat
  emergencyEffort : Nat
  bail : Bool
  electricPermitted : Bool
  emergency : Bool
  profile : RateProfile
  direction : Direction
  deriving DecidableEq, Repr

/-- The arbiter's state (sections 1.1 to 1.9). `penaltyRaised` and `restraintRaised` hold R2's conditions "raised and not yet released" of S5 and S7. The fields after `direction` are the arbiter's own copies (R29). -/
structure Arbiter where
  entries : PerSource Entry
  lossRaisers : LossRaisers
  emergencyRaisers : EmergencyRaisers
  penaltyRaised : Bool
  restraintRaised : Bool
  governor : Option Source
  stack : List Source
  gateOpen : Bool
  bail : Bool
  direction : Direction
  standstill : Bool
  pipePresent : Bool
  lineAsserted : Bool
  healthyA : Bool
  healthyB : Bool
  healthyPipe : Bool
  cabFresh : Bool
  supervisionFresh : Bool
  configValid : Bool
  record : DemandRecord
  deriving DecidableEq, Repr

/-- A source's rank of authority (section 1.1). -/
def sourceLevel : Source → Nat
  | .s0 => 1 | .s1 => 2 | .s2 => 2 | .s3 => 3 | .s4 => 4 | .s5 => 5 | .s6 => 5 | .s7 => 6 | .s8 => 7

/-- Which field of the record a source's effort feeds (section 1.1). -/
inductive Mode where
  | electricOnly | airOnly | blended | emergency
  deriving DecidableEq, Repr

/-- A source's mode (section 1.1). -/
def sourceMode : Source → Mode
  | .s0 => .electricOnly
  | .s1 | .s2 | .s7 => .airOnly
  | .s3 | .s4 | .s5 | .s6 => .blended
  | .s8 => .emergency

/-- The standing of a source's entry. -/
def Arbiter.standing (a : Arbiter) (s : Source) : Standing := (a.entries.get s).state

/-- The entry is PENDING, GOVERNING or HELD (R1). -/
def Arbiter.nonIdle (a : Arbiter) (s : Source) : Bool := a.standing s ≠ .idle

/-- The in-force effort of a source. -/
def Arbiter.inForce (a : Arbiter) (s : Source) : Nat := (a.entries.get s).inForce

/-- The standing authority: the governor's level, or 0 (R3). -/
def Arbiter.authority (a : Arbiter) : Nat :=
  match a.governor with
  | none => 0
  | some g => sourceLevel g

/-- The entry with one source's standing replaced. -/
def Arbiter.withStanding (a : Arbiter) (s : Source) (st : Standing) : Arbiter :=
  { a with entries := a.entries.set s { a.entries.get s with state := st } }

/-- The entry with one source's two efforts replaced. -/
def Arbiter.withEfforts (a : Arbiter) (s : Source) (posted inForce : Nat) : Arbiter :=
  { a with entries := a.entries.set s { a.entries.get s with posted := posted, inForce := inForce } }

/-- The condition under which a source's entry is non-idle (R2). -/
def Arbiter.wants (a : Arbiter) : Source → Bool
  | .s5 => a.penaltyRaised
  | .s6 => a.lossRaisers.any
  | .s7 => a.restraintRaised
  | .s8 => a.emergencyRaisers.any
  | s => 0 < a.inForce s

/-- The PENDING entry of highest level and, among equals, of lowest source number (R6). -/
def Arbiter.candidate (a : Arbiter) : Option Source :=
  Source.all.foldl (fun best s =>
    if a.standing s = .pending then
      match best with
      | none => some s
      | some b => if sourceLevel b < sourceLevel s then some s else some b
    else best) none

/-- The level of the top of the authority stack, 0 when it is empty (R6). -/
def Arbiter.topLevel (a : Arbiter) : Nat :=
  match a.stack.getLast? with
  | none => 0
  | some t => sourceLevel t

/-- Authority is re-evaluated after the governor has gone IDLE (R6). -/
def Arbiter.reevaluate (a : Arbiter) : Arbiter :=
  let popped := match a.stack.getLast? with
    | none => { a with governor := none }
    | some t => { a.withStanding t .governing with governor := some t, stack := a.stack.dropLast }
  match a.candidate with
  | none => popped
  | some c =>
    if a.topLevel < sourceLevel c then { a.withStanding c .governing with governor := some c } else popped

/-- The entry of a source that goes IDLE: its efforts become 0, but for the posted effort of S0, S1 and S3 (R1). -/
def Entry.gone (s : Source) (e : Entry) : Entry :=
  { e with
    state := .idle
    inForce := 0
    posted := match s with
      | .s0 | .s1 | .s3 => e.posted
      | _ => 0 }

/-- A source's entry goes IDLE, through R6 or R7 according to its standing. -/
def Arbiter.goIdle (a : Arbiter) (s : Source) : Arbiter :=
  let gone := { a with entries := a.entries.set s (Entry.gone s (a.entries.get s)) }
  match a.standing s with
  | .governing => gone.reevaluate
  | .held => { gone with stack := a.stack.erase s }
  | .pending | .idle => gone

/-- A source's entry leaves IDLE (R4); its stamp is written (R1). -/
def Arbiter.leaveIdle (now : Nat) (a : Arbiter) (s : Source) : Arbiter :=
  let stamped := { a with entries := a.entries.set s { a.entries.get s with stamp := now } }
  if a.authority < sourceLevel s then
    match a.governor with
    | none => { stamped.withStanding s .governing with governor := some s }
    | some g =>
      { (stamped.withStanding g .held).withStanding s .governing with governor := some s, stack := a.stack ++ [g] }
  else stamped.withStanding s .pending

/-- Step 2 of R8: the entries that must go IDLE, in ascending source number. -/
def Arbiter.goIdles (a : Arbiter) : Arbiter :=
  Source.all.foldl (fun b s => if b.nonIdle s && !b.wants s then b.goIdle s else b) a

/-- Step 3 of R8: the entries that must leave IDLE, in ascending level and source number. -/
def Arbiter.leaveIdles (now : Nat) (a : Arbiter) : Arbiter :=
  Source.all.foldl (fun b s => if !b.nonIdle s && b.wants s then b.leaveIdle now s else b) a

/-- The in-force efforts of S6, S7 and S8: the live parameter while non-idle (R2). -/
def Arbiter.refreshEfforts (cfg : ConfigSet) (a : Arbiter) : Arbiter :=
  let put := fun (b : Arbiter) (s : Source) (v : Nat) => b.withEfforts s 0 (if b.nonIdle s then v else 0)
  put (put (put a .s6 cfg.penaltyEffort) .s7 cfg.restraintEffort) .s8 cfg.emergencyEffort

/-- The largest in-force effort among the non-idle entries of a mode, or 0 (R27, R28). -/
def Arbiter.largest (a : Arbiter) (m : Mode) : Nat :=
  Source.all.foldl (fun best s =>
    if a.nonIdle s && sourceMode s = m then max best (a.inForce s) else best) 0

/-- Bail-off is eligible (R12). -/
def Arbiter.bailEligible (a : Arbiter) : Bool := a.bail && a.gateOpen && a.authority ≤ 3

/-- The effective demand record as R27 builds it. -/
def Arbiter.buildRecord (a : Arbiter) : DemandRecord where
  authority := a.authority
  governor := a.governor
  blended := a.largest .blended
  airFloor := a.largest .airOnly
  electricOnly := a.inForce .s0
  emergencyEffort := if a.nonIdle .s8 then a.inForce .s8 else 0
  bail := a.bailEligible
  electricPermitted := a.governor ≠ some .s7 && a.governor ≠ some .s8
  emergency := a.nonIdle .s8
  profile := if a.authority = 7 then .emergency else .service
  direction := a.direction

/-- Steps 2 to 4 of R8, up to the record: entries go IDLE, entries leave IDLE, and the record is rebuilt once. -/
def Arbiter.settle (cfg : ConfigSet) (now : Nat) (a : Arbiter) : Arbiter :=
  let b := ((a.goIdles).leaveIdles now).refreshEfforts cfg
  { b with record := b.buildRecord }

/-! ### The events of the arbiter: step 1 of R8 for each -/

/-- One handle post under the gate state (R10, R11). -/
def Arbiter.post (a : Arbiter) (s : Source) (v : Nat) : Arbiter :=
  a.withEfforts s v (if a.gateOpen then v else max (a.inForce s) v)

/-- A penalty acknowledge (R24). -/
def Arbiter.acknowledge (a : Arbiter) : Arbiter :=
  if a.standstill then
    { a with lossRaisers :=
      ⟨false, a.lossRaisers.supervisionLost && !a.supervisionFresh⟩ }
  else a

/-- What a CAB DEMAND changes before R8 takes the entries (R9). -/
def Arbiter.takeCabDemand (dynamic independent automatic : Word16) (flags : Byte) (a : Arbiter) : Arbiter :=
  let gated := { a with gateOpen := controlActive flags }
  let posted := ((gated.post .s0 (takenEffort dynamic)).post .s1 (takenEffort independent)).post .s3
    (takenEffort automatic)
  let raised := if emergencyFlag flags
    then { posted with emergencyRaisers := posted.emergencyRaisers.add .cab } else posted
  let recorded := { raised with bail := bailFlag flags, direction := directionOf flags }
  if acknowledgeFlag flags then recorded.acknowledge else recorded

/-- The hold effort of a CAPABILITY REPORT is posted to S2 (R13). -/
def Arbiter.takeHold (hold : Word16) (a : Arbiter) : Arbiter :=
  a.withEfforts .s2 (takenEffort hold) (takenEffort hold)

/-- An INTERVENE is posted to S4 (R14). -/
def Arbiter.takeIntervene (effort : Word16) (a : Arbiter) : Arbiter :=
  a.withEfforts .s4 (takenEffort effort) (takenEffort effort)

/-- A PENALTY raises S5, or raises its in-force effort (R15). -/
def Arbiter.takePenalty (effort : Word16) (a : Arbiter) : Arbiter :=
  let v := takenEffort effort
  { a.withEfforts .s5 v (if a.nonIdle .s5 then max (a.inForce .s5) v else v) with penaltyRaised := true }

/-- The result of a RELEASE PENALTY (R16). -/
def Arbiter.releasePenaltyResult (a : Arbiter) : Result :=
  if !a.nonIdle .s5 then .notRaised else if a.standstill then .ok else .tooEarly

/-- S5 is released (R16). -/
def Arbiter.takeReleasePenalty (a : Arbiter) : Arbiter :=
  if a.releasePenaltyResult = .ok then { a with penaltyRaised := false } else a

/-- A raiser is added to S8's set (R17). -/
def Arbiter.raise (r : EmergencyRaiser) (a : Arbiter) : Arbiter :=
  { a with emergencyRaisers := a.emergencyRaisers.add r }

/-- The emergency hold has passed (R18). -/
def Arbiter.holdPassed (cfg : ConfigSet) (now : Nat) (a : Arbiter) : Bool :=
  a.nonIdle .s8 && (a.entries.s8.stamp + cfg.emergencyHoldMs ≤ now)

/-- The result of a RELEASE EMERGENCY from a port whose raiser is `r` (R21). -/
def Arbiter.releaseEmergencyResult (cfg : ConfigSet) (now : Nat) (r : EmergencyRaiser) (a : Arbiter) : Result :=
  if !a.emergencyRaisers.has r then .notRaised
  else if a.standstill && a.holdPassed cfg now then .ok else .tooEarly

/-- A RELEASE EMERGENCY removes the requesting port's raiser (R21). -/
def Arbiter.takeReleaseEmergency (cfg : ConfigSet) (now : Nat) (r : EmergencyRaiser) (a : Arbiter) : Arbiter :=
  if a.releaseEmergencyResult cfg now r = .ok then { a with emergencyRaisers := a.emergencyRaisers.remove r } else a

/-- The evaluation of R19: the LINE and PIPE raisers are removed where their three conditions hold. -/
def Arbiter.evaluateRaisers (cfg : ConfigSet) (now : Nat) (a : Arbiter) : Arbiter :=
  if a.standstill && a.holdPassed cfg now then
    { a with emergencyRaisers :=
      { a.emergencyRaisers with
        line := a.emergencyRaisers.line && a.lineAsserted
        pipe := a.emergencyRaisers.pipe && a.pipePresent } }
  else a

/-- The five conditions of R26 hold together. -/
def Arbiter.restraintMet (a : Arbiter) : Bool :=
  a.configValid && a.cabFresh && a.supervisionFresh && a.healthyA && a.healthyB && a.healthyPipe

/-- The evaluation of R26. -/
def Arbiter.evaluateRestraint (a : Arbiter) : Arbiter :=
  if a.restraintMet then { a with restraintRaised := false } else a

/-- The EMERGENCY line changes to asserted (R17). -/
def Arbiter.takeLineAsserted (a : Arbiter) : Arbiter := Arbiter.raise .line { a with lineAsserted := true }

/-- The EMERGENCY line ceases to be asserted (R19). -/
def Arbiter.takeLineReleased (cfg : ConfigSet) (now : Nat) (a : Arbiter) : Arbiter :=
  Arbiter.evaluateRaisers cfg now { a with lineAsserted := false }

/-- The brake pipe emergency condition has begun (R17). -/
def Arbiter.takePipeBegun (a : Arbiter) : Arbiter := Arbiter.raise .pipe { a with pipePresent := true }

/-- The brake pipe condition has cleared (R19). -/
def Arbiter.takePipeCleared (cfg : ConfigSet) (now : Nat) (a : Arbiter) : Arbiter :=
  Arbiter.evaluateRaisers cfg now { a with pipePresent := false }

/-- A change of the standstill flag (R22). -/
def Arbiter.takeStandstill (cfg : ConfigSet) (now : Nat) (set : Bool) (a : Arbiter) : Arbiter :=
  let b := { a with standstill := set }
  if set then b.evaluateRaisers cfg now else b

/-- A transducer health change (R26). -/
def Arbiter.takeHealth (which : Transducer) (healthy : Bool) (a : Arbiter) : Arbiter :=
  Arbiter.evaluateRestraint <|
    match which with
    | .bcA => { a with healthyA := healthy }
    | .bcB => { a with healthyB := healthy }
    | .pipe => { a with healthyPipe := healthy }

/-- The cab link has become LOST (R23). -/
def Arbiter.takeCabLost (a : Arbiter) : Arbiter :=
  Arbiter.evaluateRestraint
    { a.withEfforts .s0 0 0 with
      lossRaisers := { a.lossRaisers with cabLost := true }
      gateOpen := false
      bail := false
      cabFresh := false }

/-- The supervision link has become LOST (R23). -/
def Arbiter.takeSupervisionLost (a : Arbiter) : Arbiter :=
  Arbiter.evaluateRestraint
    { a with lossRaisers := { a.lossRaisers with supervisionLost := true }, supervisionFresh := false }

/-- The cab link has become FRESH (R172). -/
def Arbiter.takeCabFresh (a : Arbiter) : Arbiter := Arbiter.evaluateRestraint { a with cabFresh := true }

/-- The supervision link has become FRESH (R173). -/
def Arbiter.takeSupervisionFresh (a : Arbiter) : Arbiter :=
  Arbiter.evaluateRestraint { a with supervisionFresh := true }

/-- The configuration state has become VALID (R182, step 3). -/
def Arbiter.takeConfigValid (a : Arbiter) : Arbiter := Arbiter.evaluateRestraint { a with configValid := true }

/-! ### Reset -/

/-- The record of an arbiter that holds no demand. -/
def DemandRecord.none : DemandRecord := ⟨0, Option.none, 0, 0, 0, 0, false, true, false, .service, .neutral⟩

/-- The arbiter's state at a reset, before it raises S7 (R29). -/
def Arbiter.cleared (line configValid : Bool) : Arbiter where
  entries := ⟨.cleared, .cleared, .cleared, .cleared, .cleared, .cleared, .cleared, .cleared, .cleared⟩
  lossRaisers := ⟨false, false⟩
  emergencyRaisers := ⟨false, false, false, false⟩
  penaltyRaised := false
  restraintRaised := false
  governor := none
  stack := []
  gateOpen := false
  bail := false
  direction := .neutral
  standstill := false
  pipePresent := false
  lineAsserted := line
  healthyA := false
  healthyB := false
  healthyPipe := false
  cabFresh := false
  supervisionFresh := false
  configValid := configValid
  record := DemandRecord.none

/-- The one event that ends the arbiter's reset: S7 is raised, and LINE is added if the EMERGENCY line is asserted (R29, R30). -/
def Arbiter.takeReset (a : Arbiter) : Arbiter :=
  let raised := { a with restraintRaised := true }
  if a.lineAsserted then raised.raise .line else raised

/-- The arbiter right after a reset (R29, R30). -/
def Arbiter.afterReset (cfg : ConfigSet) (now : Nat) (line configValid : Bool) : Arbiter :=
  Arbiter.settle cfg now (Arbiter.takeReset (Arbiter.cleared line configValid))

end Sys2Proof.Machine
end

