-- ==== Sys2Proof/Machine/Blend.lean ====
section
/-! DEFINITION. The blend engine (02_blend_computation.md): the blend ledger, the ten stages of a blend period, and the commands of an effort order. -/

namespace Sys2Proof.Machine

/-- The clamp flags of a period (R49). -/
structure ClampFlags where
  input : Bool
  pressure : Bool
  range : Bool
  deriving DecidableEq, Repr

/-- The reason of an effort order (R50). -/
inductive OrderReason where
  | period | clip | emergency | withdraw
  deriving DecidableEq, Repr

/-- An effort order: the six commands and the reason (R50). -/
structure EffortOrder where
  commands : PerAxle Nat
  reason : OrderReason
  deriving DecidableEq, Repr

/-- The traction port's capability record, as received (R164, R176). -/
structure Capability where
  axles : PerAxle AxleReport
  cutOut : PerAxle Bool
  hold : Word16
  deriving DecidableEq, Repr

/-- The capability record at a reset (R176). -/
def Capability.cleared : Capability where
  axles := .ofFn fun _ => ⟨0, 0⟩
  cutOut := .ofFn fun _ => false
  hold := 0

/-- The cut-out flags of byte 24 of a CAPABILITY REPORT: bit 0 is axle 1 (R178). -/
def cutOutFlags (b : Byte) : PerAxle Bool := .ofFn fun i => b.getLsbD (i.number - 1)

/-- The blend ledger (R32), and the pending INPUT mark (R35). `demand` holds the fields copied from the effective demand record. -/
structure Ledger where
  demand : DemandRecord
  withdrawn : Bool
  avail : PerAxle Nat
  ach : PerAxle Nat
  lim : PerAxle Nat
  cap : PerAxle Nat
  target : Nat
  unmet : Nat
  tgt : PerAxle Nat
  cmd : PerAxle Nat
  sumAch : Nat
  airReq : Nat
  capAir : PerTruck Nat
  split : PerTruck Nat
  unserved : Nat
  airForce : PerTruck Nat
  pressure : PerTruck Nat
  measured : PerTruck Nat
  healthy : PerTruck Bool
  truckForce : PerTruck Nat
  deficit : Nat
  deficitTimer : Nat
  deficitFlag : Bool
  clamps : ClampFlags
  lastReason : OrderReason
  pendingInput : Bool
  deriving DecidableEq, Repr

/-- The ledger at a reset (R33), with the record as rebuilt at the end of the arbiter's reset. -/
def Ledger.afterReset (record : DemandRecord) : Ledger where
  demand := record
  withdrawn := false
  avail := .ofFn fun _ => 0
  ach := .ofFn fun _ => 0
  lim := .ofFn fun _ => 1000
  cap := .ofFn fun _ => 0
  target := 0
  unmet := 0
  tgt := .ofFn fun _ => 0
  cmd := .ofFn fun _ => 0
  sumAch := 0
  airReq := 0
  capAir := ⟨0, 0⟩
  split := ⟨0, 0⟩
  unserved := 0
  airForce := ⟨0, 0⟩
  pressure := ⟨0, 0⟩
  measured := ⟨0, 0⟩
  healthy := ⟨false, false⟩
  truckForce := ⟨0, 0⟩
  deficit := 0
  deficitTimer := 0
  deficitFlag := false
  clamps := ⟨false, false, false⟩
  lastReason := .period
  pendingInput := false

/-- What the engine reads of its owners at a period expiry (R31). -/
structure BlendInputs where
  record : DemandRecord
  tractionFresh : Bool
  capability : Capability
  limits : PerAxle Nat
  measured : PerTruck Nat
  healthy : PerTruck Bool
  deriving DecidableEq, Repr

/-- The period begins: the record is copied, and the clamp flags begin with the pending INPUT mark (R31, R35, R49). -/
def Ledger.begin (x : BlendInputs) (l : Ledger) : Ledger :=
  { l with demand := x.record, clamps := ⟨l.pendingInput, false, false⟩, pendingInput := false }

/-- Whether an axle's reported values are in use (R34). -/
def axleInUse (x : BlendInputs) (withdrawn : Bool) (i : Axle) : Bool :=
  x.tractionFresh && !withdrawn && !x.capability.cutOut.get i

/-- A reported value as it is used (R34). -/
def usedValue (x : BlendInputs) (withdrawn : Bool) (i : Axle) (v : Word16) : Nat :=
  if axleInUse x withdrawn i then min v.toNat maxAxleEffort else 0

/-- Some value in use is clamped (R35). -/
def reportClamped (x : BlendInputs) (withdrawn : Bool) : Bool :=
  Axle.all.any fun i =>
    axleInUse x withdrawn i &&
      (maxAxleEffort < (x.capability.axles.get i).available.toNat
        || maxAxleEffort < (x.capability.axles.get i).achieved.toNat)

/-- Stage 1: available and achieved electric, limits and caps (R34, R35, R36). -/
def Ledger.stage1 (x : BlendInputs) (l : Ledger) : Ledger :=
  let avail := PerAxle.ofFn fun i => usedValue x l.withdrawn i (x.capability.axles.get i).available
  let ach := PerAxle.ofFn fun i => usedValue x l.withdrawn i (x.capability.axles.get i).achieved
  { l with
    avail := avail
    ach := ach
    lim := x.limits
    cap := PerAxle.ofFn fun i => min (avail.get i) (x.limits.get i)
    clamps := { l.clamps with input := l.clamps.input || reportClamped x l.withdrawn } }

/-- Stage 2: the electric target and the electric unmet (R37). -/
def Ledger.stage2 (l : Ledger) : Ledger :=
  let wanted := max l.demand.blended l.demand.electricOnly
  let target := if !l.demand.electricPermitted || l.demand.emergency then 0 else min wanted l.cap.sum
  { l with target := target, unmet := wanted - target }

/-- The last pass of the water-fill: each unsettled axle takes the share, and the first `rest` of them one unit more (R38, step 5). -/
def shareOut (share : Nat) : Nat → List (Axle × Nat) → List (Axle × Nat)
  | _, [] => []
  | rest, (i, _) :: us => (i, if 0 < rest then share + 1 else share) :: shareOut share (rest - 1) us

/-- The passes of the water-fill over the unsettled axles with their caps (R38). Each pass but the last settles an axle, so as many passes as there are axles suffice. -/
def fillPasses : Nat → Nat → List (Axle × Nat) → List (Axle × Nat)
  | 0, _, _ => []
  | fuel + 1, t, us =>
    if us.length = 0 then []
    else
      let share := t / us.length
      let settled := us.filter fun u => u.2 ≤ share
      if settled.length = 0 then shareOut share (t - share * us.length) us
      else
        settled ++ fillPasses fuel (t - (settled.map Prod.snd).sum) (us.filter fun u => share < u.2)

/-- The target an axle has among those given out. -/
def givenTo (i : Axle) (given : List (Axle × Nat)) : Nat :=
  match given.find? (fun u => u.1 = i) with
  | some u => u.2
  | none => 0

/-- The electric target divided among the six axles by water-fill (R38). -/
def waterFill (target : Nat) (cap : PerAxle Nat) : PerAxle Nat :=
  let given := fillPasses 7 target (Axle.all.map fun i => (i, cap.get i))
  PerAxle.ofFn fun i => givenTo i given

/-- Stage 3: the electric targets (R38). -/
def Ledger.stage3 (l : Ledger) : Ledger := { l with tgt := waterFill l.target l.cap }

/-- One axle's new command (R39). -/
def rampCommand (cfg : ConfigSet) (stop : Bool) (tgt cap cmd : Nat) : Nat :=
  if stop then 0
  else if cmd < tgt then min tgt (cmd + cfg.eRise)
  else if tgt < cmd then (if cap < cmd then tgt else max tgt (cmd - cfg.eFall))
  else cmd

/-- Stage 4: the commands (R39). -/
def Ledger.stage4 (cfg : ConfigSet) (l : Ledger) : Ledger :=
  { l with cmd := PerAxle.ofFn fun i =>
      rampCommand cfg (l.demand.emergency || !l.demand.electricPermitted) (l.tgt.get i) (l.cap.get i) (l.cmd.get i) }

/-- The blended residual (R40). -/
def Ledger.residual (l : Ledger) : Nat :=
  if l.demand.bail then 0 else l.demand.blended - l.sumAch

/-- Stage 5: the sum of achieved electric and the air requirement (R40). -/
def Ledger.stage5 (l : Ledger) : Ledger :=
  let summed := { l with sumAch := l.ach.sum }
  let q := max l.demand.airFloor summed.residual
  { summed with
    airReq := min q 6000
    clamps := { l.clamps with range := l.clamps.range || 6000 < q } }

/-- The force a cylinder gives at a pressure: (p − p_return) × gain / 256 (R41, R45, R46). -/
def cylinderForce (cfg : ConfigSet) (t : Truck) (p : Nat) : Nat :=
  (p - cfg.pReturn) * cfg.truckGain.get t / 256

/-- The adhesion capacity of a truck (R41). -/
def Ledger.adhesion (l : Ledger) (t : Truck) : Nat :=
  ((Truck.axles t).map fun i => l.lim.get i - l.ach.get i).sum

/-- Stage 6: the air capacity of each truck (R41). -/
def Ledger.stage6 (cfg : ConfigSet) (l : Ledger) : Ledger :=
  { l with capAir := .ofFn fun t => min (l.adhesion t) (cylinderForce cfg t cfg.pCap) }

/-- The split of an air requirement between two capacities (R42). -/
def splitAir (q capA capB : Nat) : Nat × Nat :=
  let a := min capA (q - q / 2)
  let b := min capB (q - a)
  (min capA (q - b), b)

/-- Stage 7: the split and the unserved air (R42). -/
def Ledger.stage7 (l : Ledger) : Ledger :=
  let ab := splitAir l.airReq l.capAir.a l.capAir.b
  { l with split := ⟨ab.1, ab.2⟩, unserved := l.airReq - ab.1 - ab.2 }

/-- One truck's air force moved toward its split (R43). -/
def rampForce (cfg : ConfigSet) (p : RateProfile) (split force : Nat) : Nat :=
  match p with
  | .emergency => split
  | .service =>
    if force < split then min split (force + cfg.airRateService) else max split (force - cfg.airRateRelease)

/-- Stage 8: the truck air forces (R43). -/
def Ledger.stage8 (cfg : ConfigSet) (l : Ledger) : Ledger :=
  { l with airForce := .ofFn fun t => rampForce cfg l.demand.profile (l.split.get t) (l.airForce.get t) }

/-- The unclamped pressure target of a force (R44). -/
def forcePressure (cfg : ConfigSet) (t : Truck) (force : Nat) : Nat :=
  if force = 0 then 0 else cfg.pReturn + ceilDiv (force * 256) (cfg.truckGain.get t)

/-- Stage 9: the pressure targets, and the air forces under emergency (R44, R45). -/
def Ledger.stage9 (cfg : ConfigSet) (l : Ledger) : Ledger :=
  if l.demand.emergency then
    let ceiling := fun t => cylinderForce cfg t cfg.pEmer
    { l with
      pressure := .ofFn fun _ => cfg.pEmer
      airForce := .ofFn fun t => min (ceiling t) 6000
      clamps := { l.clamps with range := l.clamps.range || 6000 < ceiling .a || 6000 < ceiling .b } }
  else
    let free := fun t => forcePressure cfg t (l.airForce.get t)
    { l with
      pressure := .ofFn fun t => min (free t) cfg.pCap
      clamps := { l.clamps with pressure := l.clamps.pressure || cfg.pCap < free .a || cfg.pCap < free .b } }

/-- The force that a measured pressure stands for, before its clamp (R46). -/
def measuredForce (cfg : ConfigSet) (x : BlendInputs) (t : Truck) : Nat :=
  if x.healthy.get t then cylinderForce cfg t (x.measured.get t) else 0

/-- The deficit of a period (R47). -/
def Ledger.deficitNow (l : Ledger) : Nat :=
  let forces := l.truckForce.a + l.truckForce.b
  if l.demand.emergency then 0
  else max ((if l.demand.bail then 0 else l.demand.blended) - (l.sumAch + forces)) (l.demand.airFloor - forces)

/-- The deficit timer and the DEFICIT flag (R48). -/
def Ledger.deficitSpell (cfg : ConfigSet) (l : Ledger) : Ledger :=
  if cfg.deficitThreshold < l.deficit then
    let timer := min (l.deficitTimer + 20) cfg.deficitTimeMs
    { l with deficitTimer := timer, deficitFlag := l.deficitFlag || timer = cfg.deficitTimeMs }
  else { l with deficitTimer := 0, deficitFlag := false }

/-- Stage 10: measured pressures and forces, the deficit and its spell (R46, R47, R48). -/
def Ledger.stage10 (cfg : ConfigSet) (x : BlendInputs) (l : Ledger) : Ledger :=
  let measured :=
    { l with
      measured := x.measured
      healthy := x.healthy
      truckForce := .ofFn fun t => min (measuredForce cfg x t) 6000
      clamps := { l.clamps with
        range := l.clamps.range || 6000 < measuredForce cfg x .a || 6000 < measuredForce cfg x .b } }
  Ledger.deficitSpell cfg { measured with deficit := measured.deficitNow }

/-- The ten stages of one blend period (R31). -/
def Ledger.allocate (cfg : ConfigSet) (x : BlendInputs) (l : Ledger) : Ledger :=
  let taken := Ledger.stage1 x (Ledger.begin x l)
  let commanded := Ledger.stage4 cfg (taken.stage2).stage3
  let split := Ledger.stage7 (Ledger.stage6 cfg commanded.stage5)
  Ledger.stage10 cfg x (Ledger.stage9 cfg (Ledger.stage8 cfg split))

/-- The EFFORT_DEFICIT trigger of a period, where its flag has set (R48). -/
def deficitTrigger (before after : Ledger) : List Trigger :=
  if after.deficitFlag && !before.deficitFlag then [.effortDeficit after.deficit] else []

/-- The commands of an order as it is built: each at or below its axle's limit, and 0 under emergency (R50). -/
def guardedCommands (emergency : Bool) (limits cmd : PerAxle Nat) : PerAxle Nat :=
  PerAxle.ofFn fun i => if emergency then 0 else min (cmd.get i) (limits.get i)

/-- The ledger once an order of a reason has been built (R50). -/
def Ledger.ordered (emergency : Bool) (limits : PerAxle Nat) (reason : OrderReason) (l : Ledger) : Ledger :=
  { l with cmd := guardedCommands emergency limits l.cmd, lastReason := reason }

/-- Every command at 0 (R53, R54). -/
def Ledger.zeroed (l : Ledger) : Ledger := { l with cmd := PerAxle.ofFn fun _ => 0 }

end Sys2Proof.Machine
end

