-- ==== Sys2Proof/Machine/Pressure.lean ====
section
/-! DEFINITION. The cylinder pressure controller (03_cylinder_pressure_and_brake_pipe.md): the two truck loops with their response watch, and the brake pipe watch. -/

namespace Sys2Proof.Machine

/-- The mode of a truck loop or of the brake pipe watch (R57, R67). -/
inductive LoopMode where
  | starting | normal | failsafe
  deriving DecidableEq, Repr

/-- The state driven on a truck's two valves (R57). -/
inductive Valve where
  | apply | release | lap
  deriving DecidableEq, Repr

/-- A truck's correction (R107). -/
inductive Correction where
  | none | release | hold
  deriving DecidableEq, Repr

/-- A truck loop (R57). Its health is healthy exactly in NORMAL mode (R57, R61, R63). -/
structure TruckLoop where
  mode : LoopMode
  valve : Valve
  target : Nat
  correction : Correction
  measured : Nat
  applyTime : Nat
  applyStart : Nat
  responseFault : Bool
  deriving DecidableEq, Repr

/-- A truck loop at a reset (R73). -/
def TruckLoop.afterReset : TruckLoop := ⟨.starting, .lap, 0, .none, 0, 0, 0, false⟩

/-- The transducer health the loop reports (R57). -/
def TruckLoop.healthy (l : TruckLoop) : Bool := l.mode = .normal

/-- The brake pipe watch (R67); the history is kept oldest first. -/
structure PipeWatch where
  mode : LoopMode
  history : List Nat
  pressure : Nat
  dropRate : Int
  present : Bool
  fault : Bool
  deriving DecidableEq, Repr

/-- The brake pipe watch at a reset (R73). -/
def PipeWatch.afterReset : PipeWatch := ⟨.starting, [], 0, 0, false, false⟩

/-- The measured pressure lies within the target ± the band, taken signed (R59, R65). -/
def withinBand (cfg : ConfigSet) (target measured : Nat) : Bool :=
  target ≤ measured + cfg.pressureBand && measured ≤ target + cfg.pressureBand

/-- The valve state of R59. -/
def normalValve (cfg : ConfigSet) (c : Correction) (target measured : Nat) : Valve :=
  match c with
  | .release => .release
  | .hold => .lap
  | .none =>
    if target = 0 then .release
    else if measured + cfg.pressureBand < target then .apply
    else if target + cfg.pressureBand < measured then .release
    else .lap

/-- The valve state of R62. -/
def failsafeValve (c : Correction) (target : Nat) : Valve :=
  match c with
  | .release => .release
  | .hold => .lap
  | .none => if 0 < target then .apply else .release

/-- The apply and release functions of a valve state (R60). -/
def Valve.functions : Valve → Bool × Bool
  | .apply => (true, false)
  | .release => (false, true)
  | .lap => (false, false)

/-- The span and the rise of the response watch, fixed in the device (R65). -/
def responseSpan : Nat := 3000
def responseRise : Nat := 20

/-- Steps 1 and 2 of a truck sample: the mode and pressure from the conversion read, the target and the correction (R58, R61, R63). -/
def TruckLoop.read (cv : Conversion) (target : Nat) (c : Correction) (l : TruckLoop) : TruckLoop :=
  if cv.healthy then { l with mode := .normal, measured := cv.value, target := target, correction := c }
  else { l with mode := .failsafe, measured := 0, target := target, correction := c,
                applyTime := 0 }

/-- The valve state a sample selects (R59, R62). -/
def TruckLoop.select (cfg : ConfigSet) (l : TruckLoop) : Valve :=
  if l.mode = .normal then normalValve cfg l.correction l.target l.measured
  else failsafeValve l.correction l.target

/-- The apply time and start pressure of a sample in NORMAL mode that has selected `v`; `before` is the loop before the sample (R64). DESIGN CHOICE: while no run of APPLY stands, the start pressure keeps the value of the last run (log 37). -/
def TruckLoop.countApply (before : TruckLoop) (v : Valve) (l : TruckLoop) : TruckLoop :=
  if v = .apply then
    if before.valve ≠ .apply ∨ before.mode ≠ .normal then { l with applyTime := 0, applyStart := l.measured }
    else { l with applyTime := min (l.applyTime + 10) responseSpan }
  else { l with applyTime := 0 }

/-- The response watch finds a run of 3000 ms whose pressure has risen by less than 20 kPa (R65). -/
def TruckLoop.unresponsive (l : TruckLoop) : Bool :=
  l.applyTime = responseSpan && l.measured < l.applyStart + responseRise

/-- The RESPONSE_FAULT flag of a sample in NORMAL mode (R65). -/
def TruckLoop.watch (cfg : ConfigSet) (l : TruckLoop) : TruckLoop :=
  if withinBand cfg l.target l.measured then { l with responseFault := false }
  else if l.valve = .apply && l.unresponsive then { l with responseFault := true }
  else l

/-- One sample of a truck loop (R58). -/
def TruckLoop.sample (cfg : ConfigSet) (cv : Conversion) (target : Nat) (c : Correction) (l : TruckLoop) : TruckLoop :=
  let read := l.read cv target c
  let v := read.select cfg
  let driven := { read with valve := v }
  if driven.mode = .normal then TruckLoop.watch cfg (TruckLoop.countApply l v driven) else driven

/-- The transducer of a truck. -/
def truckTransducer : Truck → Transducer
  | .a => .bcA | .b => .bcB

/-- What a truck sample delivers: a change of health to the arbiter (R61, R63) and its triggers (R61, R65). -/
def truckDeliveries (t : Truck) (before after : TruckLoop) : List Instr :=
  (if after.mode = .failsafe ∧ before.mode ≠ .failsafe then
    [.transducerHealthChange (truckTransducer t) false, .triggerArrival (.pressureFault (truckTransducer t))]
   else if after.mode = .normal ∧ before.mode ≠ .normal then [.transducerHealthChange (truckTransducer t) true]
   else [])
  ++ (if after.responseFault && !before.responseFault then [.triggerArrival (.responseFault t)] else [])

/-- The reading history with a reading added: at most fifty, the oldest dropped (R67). -/
def pushReading (h : List Nat) (p : Nat) : List Nat :=
  if h.length < 50 then h ++ [p] else (h ++ [p]).drop (h.length - 49)

/-- The drop rate of a full history, in kPa/s (R69). -/
def dropRateOf (h : List Nat) : Int := ((h.headD 0 : Int) - (h.getLastD 0 : Int)) * 2

/-- The condition of R69: a fast fall over a full history, or a pipe below its emergency level. -/
def pipeEmergency (cfg : ConfigSet) (w : PipeWatch) : Bool :=
  (w.history.length = 50 && (cfg.pipeDropRate : Int) ≤ dropRateOf w.history) || w.pressure < cfg.pipeEmerLevel

/-- The evaluation a sample in NORMAL mode makes: R69 while CLEARED, R70 while PRESENT. -/
def PipeWatch.evaluate (cfg : ConfigSet) (w : PipeWatch) : PipeWatch :=
  if w.present then { w with present := !(cfg.pipeRecharge ≤ w.pressure : Bool) }
  else { w with present := pipeEmergency cfg w }

/-- One sample of the brake pipe watch (R68, R71, R72). -/
def PipeWatch.sample (cfg : ConfigSet) (cv : Conversion) (w : PipeWatch) : PipeWatch :=
  if cv.healthy then
    let h := pushReading w.history cv.value
    let read := { w with mode := .normal, fault := false, pressure := cv.value, history := h,
                         dropRate := if h.length = 50 then dropRateOf h else w.dropRate }
    read.evaluate cfg
  else if w.mode = .failsafe then w
  else { w with mode := .failsafe, fault := true, pressure := 0, history := [] }

/-- What a pipe sample delivers (R69 to R72). -/
def pipeDeliveries (before after : PipeWatch) : List Instr :=
  (if after.mode = .failsafe ∧ before.mode ≠ .failsafe then
    [.transducerHealthChange .pipe false, .triggerArrival (.pressureFault .pipe)]
   else if after.mode = .normal ∧ before.mode ≠ .normal then [.transducerHealthChange .pipe true]
   else [])
  ++ (if after.present && !before.present then [.brakePipeConditionBegun]
      else if before.present && !after.present then [.brakePipeConditionCleared]
      else [])

end Sys2Proof.Machine
end

