-- ==== Sys2Proof/Machine/Monitor.lean ====
section
/-! DEFINITION. The axle monitor (04_axle_speed_reference_speed_and_standstill.md): axle speeds and decelerations, the reference speed, standstill and distance. -/

namespace Sys2Proof.Machine

/-- One axle record (R76); histories are kept oldest first. `channel` is the number of the pulse channel, 0 for P0, that held the axle's TACH function at the latest window; none where no channel held it, which R147 excludes. -/
structure AxleRecord where
  tach : TachState
  pulses : List Nat
  speed : Nat
  speeds : List Nat
  decel : Int
  channel : Option (Fin 8)
  deriving DecidableEq, Repr

/-- The axle monitor's state (R76). The distance wraps as its 32 bits do. -/
structure Monitor where
  axles : PerAxle AxleRecord
  fine : Nat
  reported : Nat
  degraded : Bool
  standstillTimer : Nat
  standstill : Bool
  accumulator : Nat
  distance : Word32
  deriving DecidableEq, Repr

/-- A count added to a history of at most eight, the oldest dropped (R76). -/
def pushEight {α : Type} (h : List α) (x : α) : List α :=
  if h.length < 8 then h ++ [x] else (h ++ [x]).drop (h.length - 7)

/-- The pulse sum of a history, saturated at 1023 (R78). -/
def pulseSum (h : List Nat) : Nat := min h.sum 1023

/-- The circumference of a wheel in mm (R79, step 1). -/
def circumference (diameter : Nat) : Nat := diameter * 355 / 113

/-- The speed of an axle whose history holds k counts of pulse sum P (R79). -/
def axleSpeed (diameter ppr p k : Nat) : Nat :=
  min ((p * circumference diameter * 36 * 8 + k * ppr * 40) / (k * ppr * 80)) 1600

/-- The deceleration set before the new speed is appended (R80). -/
def decelOf (speeds : List Nat) (speed : Nat) : Int :=
  if speeds.length = 8 then (((speeds.headD 0 : Int) - (speed : Int)) * 25).tdiv 2 else 0

/-- A HEALTHY axle's record with a count appended, its speed and its deceleration (R77 to R80). -/
def AxleRecord.advance (diameter ppr count : Nat) (r : AxleRecord) : AxleRecord :=
  let pulses := pushEight r.pulses count
  let speed := axleSpeed diameter ppr (pulseSum pulses) pulses.length
  { r with pulses := pulses, speed := speed, decel := decelOf r.speeds speed, speeds := pushEight r.speeds speed }

/-- A FAULTED record: histories empty, speed and deceleration 0 (R81). -/
def AxleRecord.fault (r : AxleRecord) : AxleRecord :=
  { r with tach := .faulted, pulses := [], speeds := [], speed := 0, decel := 0 }

/-- A HEALTHY record whose histories begin afresh (R82). -/
def AxleRecord.afresh (r : AxleRecord) : AxleRecord :=
  { r with tach := .healthy, pulses := [], speeds := [] }

/-- One axle's window: the health and count of the channel that holds its TACH function (R77, R81, R82). -/
def AxleRecord.window (diameter ppr : Nat) (channel : Option (Fin 8)) (healthy : Bool) (count : Nat)
    (r : AxleRecord) : AxleRecord :=
  if !healthy then { r.fault with channel := channel }
  else if r.tach = .faulted ∨ channel ≠ r.channel then
    AxleRecord.advance diameter ppr count { r.afresh with channel := channel }
  else r.advance diameter ppr count

/-- The highest speed among the HEALTHY axles, and none where no axle is HEALTHY (R83). -/
def highestSpeed (axles : PerAxle AxleRecord) : Option Nat :=
  axles.toList.foldl (fun best r =>
    if r.tach = .healthy then some (max (best.getD 0) r.speed) else best) none

/-- The new fine reference speed (R83). -/
def fineReference (cfg : ConfigSet) (highest : Option Nat) (fine : Nat) : Nat :=
  match highest with
  | none => fine - cfg.refDecelLimit
  | some v =>
    let m := 100 * v
    if m ≤ fine then max m (fine - cfg.refDecelLimit) else min m (fine + cfg.refRiseLimit)

/-- The standstill timer after a window with a reported reference speed (R85). -/
def standstillTime (reported timer : Nat) : Nat :=
  if reported = 0 then min (timer + 10) 1000 else 0

/-- The standstill flag after a window, from the reported reference speed and the timer it leaves (R85). -/
def standstillNow (reported timer : Nat) (flag : Bool) : Bool :=
  if 5 ≤ reported then false else if timer = 1000 then true else flag

/-- The units of 0.001 km/h × 10 ms in one metre (R86). -/
def unitsPerMetre : Nat := 360000

/-- The monitor's window after the six axle records are done: reference, standstill and distance (R83 to R86). -/
def Monitor.conclude (cfg : ConfigSet) (m : Monitor) : Monitor :=
  let highest := highestSpeed m.axles
  let fine := fineReference cfg highest m.fine
  let reported := fine / 100
  let timer := standstillTime reported m.standstillTimer
  let sum := m.accumulator + fine
  { m with
    fine := fine
    reported := reported
    degraded := highest.isNone
    standstillTimer := timer
    standstill := standstillNow reported timer m.standstill
    accumulator := sum % unitsPerMetre
    distance := m.distance + BitVec.ofNat 32 (sum / unitsPerMetre) }

/-- The window completion handed to the slide controller (R87); `before` holds the records before the window. -/
def completionOf (before after : Monitor) : WindowCompletion where
  axles := PerAxle.ofFn fun i =>
    let r := after.axles.get i
    let restarted := r.speeds.length ≤ 1
    ⟨r.tach, r.speed, r.decel, if restarted then 0 else (before.axles.get i).speeds.length⟩
  reference := after.reported

/-- What an axle window delivers: the losses of health in ascending axle number, the window completion, and a change of the standstill flag (R81, R87). -/
def windowDeliveries (before after : Monitor) : List Instr :=
  (Axle.all.filterMap fun i =>
    if (before.axles.get i).tach = .healthy ∧ (after.axles.get i).tach = .faulted then
      some (.triggerArrival (.tachFault i))
    else none)
  ++ [.slideWindow (completionOf before after)]
  ++ (if before.standstill = after.standstill then [] else [.standstillChange after.standstill])

/-- The monitor at a reset, with the channels of the table, the accumulator and the distance it keeps (R89, R91). -/
def Monitor.afterReset (channels : PerAxle (Option (Fin 8))) (accumulator : Nat) (distance : Word32) : Monitor where
  axles := PerAxle.ofFn fun i => ⟨.healthy, [], 0, [], 0, channels.get i⟩
  fine := 0
  reported := 0
  degraded := false
  standstillTimer := 0
  standstill := false
  accumulator := accumulator
  distance := distance

end Sys2Proof.Machine
end

