-- ==== Sys2Proof/Machine/Slide.lean ====
section
/-! DEFINITION. The slide controller (05_wheel_slide_protection.md): creep, the slide state machine and adhesion limits, the truck corrections, and sanding. -/

namespace Sys2Proof.Machine

/-- An axle's slide state (R94). -/
inductive SlideState where
  | adhering | suspect | sliding | recovering | persistent | faulted
  deriving DecidableEq, Repr

/-- One record of the slide table (R94). -/
structure AxleSlide where
  state : SlideState
  creep : Nat
  decel : Int
  suspect : Nat
  lim : Nat
  budget : Nat
  episode : Bool
  quiet : Nat
  deriving DecidableEq, Repr

/-- One truck correction record (R107). -/
structure TruckSlide where
  correction : Correction
  release : Nat
  exhausted : Bool
  deriving DecidableEq, Repr

/-- Which sand function the record drives on (R112). -/
inductive SandOutput where
  | off | fwd | rev
  deriving DecidableEq, Repr

/-- The sand record (R112). -/
structure Sand where
  request : Bool
  output : SandOutput
  onTime : Nat
  deriving DecidableEq, Repr

/-- The slide controller's state (R94, R107, R112). `reference` is the reported reference speed recorded at the latest window (R92). -/
structure Slide where
  reference : Nat
  axles : PerAxle AxleSlide
  trucks : PerTruck TruckSlide
  sand : Sand
  deriving DecidableEq, Repr

/-- The limit that means no limit (R94). -/
def noLimit : Nat := 1000

/-- An axle record at a reset (R117). -/
def AxleSlide.afterReset (cfg : ConfigSet) : AxleSlide := ⟨.adhering, 0, 0, 0, noLimit, cfg.correctionBudget, false, 0⟩

/-- The slide controller at a reset (R117); its recorded reference is 0 until the first window (log 35). -/
def Slide.afterReset (cfg : ConfigSet) : Slide where
  reference := 0
  axles := .ofFn fun _ => .afterReset cfg
  trucks := .ofFn fun _ => ⟨.none, 0, false⟩
  sand := ⟨false, .off, 0⟩

/-- Creep in permille (R93). DEDUCED: the formula rounded down gives 0 where the shortfall is below a thousandth of the reference (1600 against 1599), though R93 says that its third case lies between 1 and 1000; the model follows the formula (log 38). -/
def creepOf (reference speed : Nat) : Nat :=
  if reference = 0 ∨ reference ≤ speed then 0 else (reference - speed) * 1000 / reference

/-- The episode ends and the budget is reloaded; the quiet timer returns to 0 (R98). -/
def AxleSlide.endEpisode (cfg : ConfigSet) (r : AxleSlide) : AxleSlide :=
  { r with episode := false, budget := cfg.correctionBudget, quiet := 0 }

/-- An open episode ends, with its budget reloaded (R95, R96). -/
def AxleSlide.endIfOpen (cfg : ConfigSet) (r : AxleSlide) : AxleSlide :=
  if r.episode then { r with episode := false, budget := cfg.correctionBudget } else r

/-- The record of an axle whose tachometer is FAULTED (R95). -/
def AxleSlide.toFaulted (cfg : ConfigSet) (r : AxleSlide) : AxleSlide :=
  { r.endIfOpen cfg with state := .faulted, creep := 0, decel := 0, lim := noLimit, suspect := 0, quiet := 0 }

/-- The record of a FAULTED axle whose tachometer is HEALTHY again (R95). -/
def AxleSlide.fromFaulted (cfg : ConfigSet) (r : AxleSlide) : AxleSlide :=
  { r with state := .adhering, lim := noLimit, budget := cfg.correctionBudget, episode := false, suspect := 0, quiet := 0 }

/-- The record of an axle under `slide_min_speed` (R96). -/
def AxleSlide.belowMinSpeed (cfg : ConfigSet) (r : AxleSlide) : AxleSlide :=
  { r.endIfOpen cfg with state := .adhering, lim := noLimit, suspect := 0, quiet := 0 }

/-- The limit set on entry into SLIDING, from the axle's force (R101). -/
def cutLimit (cfg : ConfigSet) (force : Nat) : Nat :=
  min (max cfg.slideFloor (force * cfg.slideCutPct / 100)) 1000

/-- An entry into slide (R100, R101, R104). -/
def AxleSlide.enter (cfg : ConfigSet) (force : Nat) (r : AxleSlide) : AxleSlide :=
  let opened := if r.episode then r else { r with episode := true, budget := cfg.correctionBudget }
  if 0 < opened.budget then
    { opened with state := .sliding, budget := opened.budget - 1, quiet := 0, suspect := 0, lim := cutLimit cfg force }
  else
    { opened with state := .persistent, quiet := 0, suspect := 0, lim := cfg.slideFloor }

/-- A quiet timer advanced by one window, stopping at `episode_quiet_ms` (R94, R98, R104). -/
def quietTime (cfg : ConfigSet) (quiet : Nat) : Nat := min (quiet + 10) cfg.episodeQuietMs

/-- ADHERING at a window (R98). -/
def AxleSlide.adhering (cfg : ConfigSet) (r : AxleSlide) : AxleSlide :=
  if cfg.creepWarn ≤ r.creep ∨ (cfg.decelWarn : Int) ≤ r.decel then
    { r with state := .suspect, suspect := 1, quiet := 0 }
  else if r.episode then
    if quietTime cfg r.quiet = cfg.episodeQuietMs then r.endEpisode cfg
    else { r with quiet := quietTime cfg r.quiet }
  else r

/-- SUSPECT at a window (R99). -/
def AxleSlide.suspected (cfg : ConfigSet) (force : Nat) (r : AxleSlide) : AxleSlide :=
  if cfg.creepSlide ≤ r.creep ∨ (cfg.decelSlide : Int) ≤ r.decel then r.enter cfg force
  else if r.creep < cfg.creepWarn ∧ r.decel < (cfg.decelWarn : Int) then
    { r with state := .adhering, suspect := 0, quiet := 0 }
  else
    let counted := if r.suspect < cfg.suspectWindows then { r with suspect := r.suspect + 1 } else r
    if cfg.suspectWindows ≤ counted.suspect then counted.enter cfg force else counted

/-- SLIDING at a window (R102). -/
def AxleSlide.sliding (cfg : ConfigSet) (r : AxleSlide) : AxleSlide :=
  if r.creep < cfg.creepRecover ∧ r.decel < (cfg.decelWarn : Int) then { r with state := .recovering } else r

/-- RECOVERING at a window (R103). -/
def AxleSlide.recovering (cfg : ConfigSet) (force : Nat) (r : AxleSlide) : AxleSlide :=
  if cfg.creepSlide ≤ r.creep then r.enter cfg force
  else
    let raised := { r with lim := min (r.lim + cfg.restoreStep) noLimit }
    if raised.lim = noLimit ∧ r.creep < cfg.creepWarn then { raised with state := .adhering, quiet := 0 } else raised

/-- PERSISTENT at a window (R104). -/
def AxleSlide.persisting (cfg : ConfigSet) (r : AxleSlide) : AxleSlide :=
  if r.creep < cfg.creepWarn then
    if quietTime cfg r.quiet = cfg.episodeQuietMs then
      { r.endEpisode cfg with state := .adhering, lim := noLimit }
    else { r with lim := cfg.slideFloor, quiet := quietTime cfg r.quiet }
  else { r with lim := cfg.slideFloor, quiet := 0 }

/-- The state machine of section 5.4 at a window. -/
def AxleSlide.judge (cfg : ConfigSet) (force : Nat) (r : AxleSlide) : AxleSlide :=
  match r.state with
  | .adhering => r.adhering cfg
  | .suspect => r.suspected cfg force
  | .sliding => r.sliding cfg
  | .recovering => r.recovering cfg force
  | .persistent => r.persisting cfg
  | .faulted => r

/-- One axle's part of a slide window (R92 to R104): the conditions of section 5.3 in their order, and otherwise the state machine. -/
def AxleSlide.window (cfg : ConfigSet) (reference : Nat) (x : AxleResult) (force : Nat) (r : AxleSlide) : AxleSlide :=
  if x.tach = .faulted then r.toFaulted cfg
  else
    let seen := { r with creep := creepOf reference x.speed, decel := x.decel }
    if r.state = .faulted then seen.fromFaulted cfg
    else if reference < cfg.slideMinSpeed then seen.belowMinSpeed cfg
    else if r.state = .adhering ∧ x.held < 8 then seen
    else seen.judge cfg force

/-- An axle's force: its achieved electric, and a third of its truck's measured force (R101). -/
def axleForce (l : Ledger) (i : Axle) : Nat := l.ach.get i + l.truckForce.get i.truck / 3

/-- The six axles of a slide window (R92). -/
def slideAxles (cfg : ConfigSet) (c : WindowCompletion) (l : Ledger) (axles : PerAxle AxleSlide) : PerAxle AxleSlide :=
  PerAxle.ofFn fun i => (axles.get i).window cfg c.reference (c.axles.get i) (axleForce l i)

/-- Some axle of a truck has an episode open (R107). -/
def spellRuns (axles : PerAxle AxleSlide) (t : Truck) : Bool :=
  (Truck.axles t).any fun i => (axles.get i).episode

/-- Some axle of a truck is in a slide state. -/
def someAxle (axles : PerAxle AxleSlide) (t : Truck) (st : SlideState) : Bool :=
  (Truck.axles t).any fun i => (axles.get i).state = st

/-- The release time limit of a truck (R109). -/
def releaseLimit (cfg : ConfigSet) (emergency : Bool) : Nat :=
  if emergency then cfg.emerReleaseMs else cfg.maxReleaseMs

/-- The correction of a truck at a window (R108). -/
def TruckSlide.window (cfg : ConfigSet) (emergency : Bool) (target : Nat) (runs sliding recovering : Bool)
    (r : TruckSlide) : TruckSlide :=
  let spell := if runs then r else { r with release := 0, exhausted := false }
  if spell.exhausted then { spell with correction := .none }
  else if sliding && 0 < target then
    if spell.release + 10 ≤ releaseLimit cfg emergency then
      { spell with correction := .release, release := spell.release + 10 }
    else { spell with correction := .none, exhausted := true }
  else if recovering then { spell with correction := .hold }
  else { spell with correction := .none }

/-- Both trucks of a slide window (R108). -/
def slideTrucks (cfg : ConfigSet) (emergency : Bool) (l : Ledger) (axles : PerAxle AxleSlide)
    (trucks : PerTruck TruckSlide) : PerTruck TruckSlide :=
  PerTruck.ofFn fun t => (trucks.get t).window cfg emergency (l.pressure.get t) (spellRuns axles t)
    (someAxle axles t .sliding) (someAxle axles t .recovering)

/-- The sand request at a window (R112). -/
def sandRequest (cfg : ConfigSet) (reference : Nat) (d : Direction) (axles : PerAxle AxleSlide) : Bool :=
  (axles.toList.any (fun r => r.state = .persistent)
    || 2 ≤ (axles.toList.filter fun r => r.state = .sliding).length)
  && cfg.sandMinSpeed ≤ reference && d ≠ .neutral

/-- The output a direction names (R113). -/
def sandFor : Direction → SandOutput
  | .reverse => .rev
  | .forward | .neutral => .fwd

/-- The sand record at a window (R113). -/
def Sand.window (cfg : ConfigSet) (request : Bool) (d : Direction) (s : Sand) : Sand :=
  match s.output, request with
  | .off, true => ⟨true, sandFor d, 0⟩
  | .off, false => { s with request := false }
  | _, true => ⟨true, sandFor d, min (s.onTime + 10) cfg.sandMinOnMs⟩
  | o, false =>
    if s.onTime = cfg.sandMinOnMs then ⟨false, .off, s.onTime⟩
    else ⟨false, o, min (s.onTime + 10) cfg.sandMinOnMs⟩

/-- One slide window (R92): the axles, then the trucks, then the sand record. -/
def Slide.window (cfg : ConfigSet) (record : DemandRecord) (l : Ledger) (c : WindowCompletion) (s : Slide) : Slide :=
  let axles := slideAxles cfg c l s.axles
  { reference := c.reference
    axles := axles
    trucks := slideTrucks cfg record.emergency l axles s.trucks
    sand := s.sand.window cfg (sandRequest cfg c.reference record.direction axles) record.direction }

/-- What a slide window delivers: the clip requests (R105) and the PERSISTENT_SLIDE triggers (R104), each in ascending axle number. -/
def slideDeliveries (cmd : PerAxle Nat) (before after : PerAxle AxleSlide) : List Instr :=
  (Axle.all.filterMap fun i =>
    if (after.get i).lim < (before.get i).lim ∧ (after.get i).lim < cmd.get i then some (.clipRequest i) else none)
  ++ (Axle.all.filterMap fun i =>
    if (after.get i).state = .persistent ∧ (before.get i).state ≠ .persistent then
      some (.triggerArrival (.persistentSlide i)) else none)

/-- S8 leaving IDLE exhausts each truck whose release time has reached the emergency limit (R110). -/
def TruckSlide.onEmergency (cfg : ConfigSet) (r : TruckSlide) : TruckSlide :=
  if cfg.emerReleaseMs < r.release + 10 then { r with exhausted := true, correction := .none } else r

/-- The slide controller's event when S8 leaves IDLE (R110). -/
def Slide.onEmergency (cfg : ConfigSet) (s : Slide) : Slide :=
  { s with trucks := .ofFn fun t => (s.trucks.get t).onEmergency cfg }

end Sys2Proof.Machine
end

