-- ==== Sys2Proof/Machine/Matrix.lean ====
section
/-! DEFINITION. The channel matrix (07_field_channels.md): the channel function table, the function states and driven channels, driver health, and the inputs. -/

namespace Sys2Proof.Machine

/-- The functions of R148. -/
inductive ChanFn where
  | unused | applyA | releaseA | applyB | releaseB | sandFwd | sandRev | emergencyVent | generalOut
  | tach (axle : Axle) | bcA | bcB | pipe | generalIn
  deriving DecidableEq, Repr

/-- The functions with their codes (section 8.10). -/
def fnCodes : List (Nat × ChanFn) :=
  [(0, .unused), (1, .applyA), (2, .releaseA), (3, .applyB), (4, .releaseB), (5, .sandFwd), (6, .sandRev),
   (7, .emergencyVent), (8, .generalOut), (9, .tach .a1), (10, .tach .a2), (11, .tach .a3), (12, .tach .a4),
   (13, .tach .a5), (14, .tach .a6), (15, .bcA), (16, .bcB), (17, .pipe), (18, .generalIn)]

/-- The function of a code; none for a code that names none (R156). -/
def ChanFn.ofCode (c : Byte) : Option ChanFn := (fnCodes.find? (·.1 = c.toNat)).map Prod.snd

/-- The code of a function. -/
def ChanFn.code (f : ChanFn) : Nat :=
  match fnCodes.find? (·.2 = f) with
  | some p => p.1
  | none => 0

/-- The kind of a channel (R147). -/
inductive ChanKind where
  | driver | pulse | analog
  deriving DecidableEq, Repr

/-- The kind of a channel number: D0 to D7, P0 to P7, A0 to A5 (R147). -/
def chanKind (ch : Fin 22) : ChanKind :=
  if ch.val < 8 then .driver else if ch.val < 16 then .pulse else .analog

/-- A function is allowed on a kind of channel (R148). -/
def ChanFn.allowedOn : ChanFn → ChanKind → Bool
  | .unused, _ => true
  | .generalIn, k => k ≠ .driver
  | .tach _, k => k = .pulse
  | .bcA, k | .bcB, k | .pipe, k => k = .analog
  | _, k => k = .driver

/-- A required function (R148). -/
def ChanFn.required : ChanFn → Bool
  | .applyA | .releaseA | .applyB | .releaseB | .emergencyVent | .tach _ | .bcA | .bcB | .pipe => true
  | _ => false

/-- The required functions. -/
def requiredFns : List ChanFn :=
  [.applyA, .releaseA, .applyB, .releaseB, .emergencyVent, .tach .a1, .tach .a2, .tach .a3, .tach .a4, .tach .a5,
   .tach .a6, .bcA, .bcB, .pipe]

/-- An owned driver function: its channel is a function-owned output (R148). -/
def ChanFn.owned : ChanFn → Bool
  | .applyA | .releaseA | .applyB | .releaseB | .emergencyVent | .sandFwd | .sandRev => true
  | _ => false

/-- A general function, or UNUSED: it may stand on several channels (R147). -/
def ChanFn.general : ChanFn → Bool
  | .unused | .generalOut | .generalIn => true
  | _ => false

/-- The channel function table, in channel-number order (R147). -/
abbrev ChannelTable := Vector ChanFn 22

/-- The default table (section 7.3). -/
def defaultTable : ChannelTable :=
  #v[.applyA, .releaseA, .applyB, .releaseB, .sandFwd, .sandRev, .emergencyVent, .generalOut,
     .tach .a1, .tach .a2, .tach .a3, .tach .a4, .tach .a5, .tach .a6, .generalIn, .generalIn,
     .bcA, .bcB, .pipe, .generalIn, .generalIn, .generalIn]

/-- The channels in ascending number. -/
def allChannels : List (Fin 22) :=
  [0, 1, 2, 3, 4, 5, 6, 7, 8, 9, 10, 11, 12, 13, 14, 15, 16, 17, 18, 19, 20, 21]

/-- How many channels hold a function. -/
def holders (t : ChannelTable) (f : ChanFn) : Nat := (allChannels.filter fun ch => t[ch] = f).length

/-- The lowest channel that holds a function. -/
def channelOf (t : ChannelTable) (f : ChanFn) : Option (Fin 22) := allChannels.find? fun ch => t[ch] = f

/-- Every function stands on a kind of channel that it is allowed on (R148, R149). -/
def tableAllowed (t : ChannelTable) : Bool := allChannels.all fun ch => (t[ch]).allowedOn (chanKind ch)

/-- The check of a stored table (R149), which every table the matrix holds passes (R147). -/
def tableOk (t : ChannelTable) : Bool :=
  tableAllowed t && requiredFns.all (fun f => holders t f = 1)
    && holders t .sandFwd ≤ 1 && holders t .sandRev ≤ 1

/-- The function state table: on or off for each of the seven owned driver functions (R150). -/
structure FnStates where
  applyA : Bool
  releaseA : Bool
  applyB : Bool
  releaseB : Bool
  emergencyVent : Bool
  sandFwd : Bool
  sandRev : Bool
  deriving DecidableEq, Repr

/-- Every owned function off. -/
def FnStates.off : FnStates := ⟨false, false, false, false, false, false, false⟩

/-- The state recorded for a function; off for one that has no entry. -/
def FnStates.get (s : FnStates) : ChanFn → Bool
  | .applyA => s.applyA | .releaseA => s.releaseA | .applyB => s.applyB | .releaseB => s.releaseB
  | .emergencyVent => s.emergencyVent | .sandFwd => s.sandFwd | .sandRev => s.sandRev
  | _ => false

/-- A new state handed over for an owned function (R150). -/
def FnStates.switch (s : FnStates) (f : ChanFn) (on : Bool) : FnStates :=
  match f with
  | .applyA => { s with applyA := on }
  | .releaseA => { s with releaseA := on }
  | .applyB => { s with applyB := on }
  | .releaseB => { s with releaseB := on }
  | .emergencyVent => { s with emergencyVent := on }
  | .sandFwd => { s with sandFwd := on }
  | .sandRev => { s with sandRev := on }
  | _ => s

/-- One pulse channel (R152): the count of the window in progress, the latest window count, the running total and the health. -/
structure PulseChannel where
  count : Nat
  latest : Nat
  total : Word16
  healthy : Bool
  deriving DecidableEq, Repr

/-- The channel matrix's state (R147 to R153). The loop currents are the pins whose conversions the analog channels hold. -/
structure Matrix where
  table : ChannelTable
  functions : FnStates
  generalOut : Vector Bool 8
  health : Vector DriverHealth 8
  marks : Vector Bool 8
  pulses : Vector PulseChannel 8
  loops : LoopCurrents
  deriving DecidableEq, Repr

/-- The driver channel of a channel number below 8. -/
def driverOf (ch : Fin 22) : Option (Fin 8) := if h : ch.val < 8 then some ⟨ch.val, h⟩ else none

/-- The pulse channel of a channel number from 8 to 15. -/
def pulseOf (ch : Fin 22) : Option (Fin 8) :=
  if h : 8 ≤ ch.val ∧ ch.val < 16 then some ⟨ch.val - 8, by omega⟩ else none

/-- The analog channel of a channel number from 16 on. -/
def analogOf (ch : Fin 22) : Option (Fin 6) :=
  if h : 16 ≤ ch.val then some ⟨ch.val - 16, by omega⟩ else none

/-- The channel number of a driver channel. -/
def driverChannel (d : Fin 8) : Fin 22 := ⟨d.val, by omega⟩

/-- The driven state of a driver channel (R150). -/
def Matrix.driven (m : Matrix) (d : Fin 8) : Bool :=
  match m.table[driverChannel d] with
  | .generalOut => m.generalOut[d]
  | f => m.functions.get f

/-- A driver channel is a function-owned output (R148). -/
def Matrix.ownedOutput (m : Matrix) (d : Fin 8) : Bool := (m.table[driverChannel d]).owned

/-- The conversion of the channel that holds an analog function (R153). -/
def Matrix.conversion (m : Matrix) (f : ChanFn) : Conversion :=
  match (channelOf m.table f).bind analogOf with
  | some i => convert m.loops[i]
  | none => ⟨0, false⟩

/-- The pulse channel that holds an axle's TACH function (R77). -/
def tachChannel (t : ChannelTable) (i : Axle) : Option (Fin 8) := (channelOf t (.tach i)).bind pulseOf

/-- A pulse channel at a reset (R158). Its health is taken as healthy until the first window (log 14). -/
def PulseChannel.afterReset : PulseChannel := ⟨0, 0, 0, true⟩

/-- A pulse channel closes its count at a window expiry (R152). DESIGN CHOICE: the health it holds, and READ CHANNEL shows, is that of the latest expiry until the next (log 46). -/
def PulseChannel.close (x : PulseInput) (p : PulseChannel) : PulseChannel :=
  let closed := if x.healthy then min (p.count + x.edges) 255 else 0
  ⟨0, closed, p.total + BitVec.ofNat 16 closed, x.healthy⟩

/-- The pulse channels at a window expiry. -/
def closeCounts (xs : Vector PulseInput 8) (ps : Vector PulseChannel 8) : Vector PulseChannel 8 :=
  Vector.ofFn fun i => (ps[i]).close xs[i]

/-- A driver's reported health changes (R151): the new health and mark, and whether VALVE_FAULT is raised. -/
def healthChange (owned mark : Bool) (before after : DriverHealth) : Bool × Bool :=
  if after = .ok then (false, false)
  else if before = .ok then (if owned then (true, true) else (false, false))
  else (mark, false)

/-- A mark brought into line with whether the channel is function-owned (R151, R157 step 5): the mark, and whether VALVE_FAULT is raised. -/
def alignMark (owned mark : Bool) (health : DriverHealth) : Bool × Bool :=
  if !owned then (false, false)
  else if health ≠ .ok && !mark then (true, true)
  else (mark, false)

/-- The eight driver channels in ascending number. -/
def allDrivers : List (Fin 8) := [0, 1, 2, 3, 4, 5, 6, 7]

/-- The marks brought into line with the table (R157, step 5; R158). -/
def Matrix.alignMarks (m : Matrix) : Matrix :=
  { m with marks := Vector.ofFn fun d => (alignMark (m.ownedOutput d) m.marks[d] m.health[d]).1 }

/-- The VALVE_FAULT triggers that aligning the marks raises, in ascending channel number (R151). -/
def Matrix.alignTriggers (m : Matrix) : List Instr :=
  allDrivers.filterMap fun d =>
    if (alignMark (m.ownedOutput d) m.marks[d] m.health[d]).2 then some (.triggerArrival (.valveFault d)) else none

/-- The table after an assignment (R157, steps 2 and 3): a function that may stand on one channel alone leaves the channel that held it. -/
def assignTable (t : ChannelTable) (ch : Fin 22) (f : ChanFn) : ChannelTable :=
  Vector.ofFn fun c =>
    if c = ch then f
    else if !f.general && t[c] = f then .unused
    else t[c]

/-- The general output states after an assignment: the target's becomes off if it held GENERAL_OUT (R157, step 1), and a channel that takes GENERAL_OUT shows off (step 4). -/
def assignGeneral (g : Vector Bool 8) (t : ChannelTable) (ch : Fin 22) (f : ChanFn) : Vector Bool 8 :=
  Vector.ofFn fun d =>
    if driverChannel d = ch ∧ (t[ch] = .generalOut ∨ f = .generalOut) then false else g[d]

/-- The steps of a completed assignment (R157), up to the marks. -/
def Matrix.assign (ch : Fin 22) (f : ChanFn) (m : Matrix) : Matrix :=
  { m with table := assignTable m.table ch f, generalOut := assignGeneral m.generalOut m.table ch f }

/-- The channel number that a byte of a request names (R147); none outside 0..21. -/
def channelNumber (b : Byte) : Option (Fin 22) := if h : b.toNat < 22 then some ⟨b.toNat, h⟩ else none

/-- The judgement of an ASSIGN CHANNEL (R156): an answer at once, or the store that is placed. -/
inductive AssignVerdict where
  | atOnce (r : Result)
  | store (ch : Fin 22) (f : ChanFn)
  deriving DecidableEq, Repr

/-- The rows of R156, in their order. -/
def judgeAssign (t : ChannelTable) (standstill : Bool) (channel function : Byte) : AssignVerdict :=
  match channelNumber channel, ChanFn.ofCode function with
  | some ch, some f =>
    if !standstill then .atOnce .notStandstill
    else if !f.allowedOn (chanKind ch) then .atOnce .kindMismatch
    else if (t[ch]).required && t[ch] ≠ f then .atOnce .required
    else if t[ch] = f then .atOnce .ok
    else .store ch f
  | _, _ => .atOnce .range

/-- The rows of R155, in their order; the driver channel is given where the request is answered OK. -/
def judgeDrive (t : ChannelTable) (channel state : Byte) : Result × Option (Fin 8) :=
  match channelNumber channel with
  | none => (.range, none)
  | some ch =>
    if 1 < state.toNat then (.range, none)
    else
      match driverOf ch with
      | none => (.kindMismatch, none)
      | some d =>
        if (t[ch]).owned then (.owned, none)
        else if t[ch] = .generalOut then (.ok, some d)
        else (.kindMismatch, none)

/-- The matrix at a warm restart, before the drivers' health is taken (R158). -/
def Matrix.afterWarm (m : Matrix) : Matrix :=
  { m with
    functions := .off
    marks := .ofFn fun _ => false
    pulses := .ofFn fun _ => .afterReset }

/-- The matrix at a power-on reset with the table loaded (R158). -/
def Matrix.afterPowerOn (table : ChannelTable) (m : Matrix) : Matrix :=
  { m.afterWarm with table := table, generalOut := .ofFn fun _ => false }

end Sys2Proof.Machine
end

