-- ==== Sys2Proof/Machine/Ports.lean ====
section
/-! DEFINITION. The link ports (08_link_ports_and_frame_layouts.md): receive assemblies, transmit queues, the effort order position, link states, and the judgement of a received frame. -/

namespace Sys2Proof.Machine

/-- A frame the part sends: its kind and payload; start mark, length and CRC follow from them (R159). -/
structure Frame where
  kind : Byte
  payload : List Byte
  deriving DecidableEq, Repr

/-- The characters of a frame on the line (R159). -/
def Frame.wire (f : Frame) : List Byte := wireBytes f.kind f.payload

/-- A reply (R162): the kind answered, the result, and data where the result is OK. -/
def replyFrame (kind : Byte) (r : Result) (data : List Byte) : Frame := ⟨kindReply, kind :: r.code :: data⟩

/-- The byte of an order's reason (section 8.9). -/
def OrderReason.code : OrderReason → Nat
  | .period => 0 | .clip => 1 | .emergency => 2 | .withdraw => 3

/-- The frame of an effort order (section 8.9). -/
def EffortOrder.frame (o : EffortOrder) : Frame :=
  ⟨kindEffortOrder, o.commands.toList.flatMap two ++ [byteOf o.reason.code]⟩

/-- One port (R160, R163): its receive assembly, the frame in transmission, and the replies that wait, oldest first. -/
structure Port where
  assembly : Assembly
  sending : Option Frame
  replies : List Frame
  deriving DecidableEq, Repr

/-- A port at a reset (R176). -/
def Port.afterReset : Port := ⟨.hunt, none, []⟩

/-- The state of a master port's link (R170). -/
inductive LinkState where
  | awaiting | fresh | lost
  deriving DecidableEq, Repr

/-- A master port's link: its state and the refresh time its freshness timer runs from (R170). -/
structure Link where
  state : LinkState
  refreshed : Nat
  deriving DecidableEq, Repr

/-- A link at a reset (R176). -/
def Link.afterReset : Link := ⟨.awaiting, 0⟩

/-- The four ports (R160 to R176). `outstanding` is the outstanding-request flag with the kind a deferred reply is owed to (R167). -/
structure Ports where
  port : PerPort Port
  link : PerMaster Link
  order : Option EffortOrder
  capability : Capability
  outstanding : Option Byte
  deriving DecidableEq, Repr

/-- The ports at a reset (R176). -/
def Ports.afterReset : Ports where
  port := ⟨.afterReset, .afterReset, .afterReset, .afterReset⟩
  link := ⟨.afterReset, .afterReset, .afterReset⟩
  order := none
  capability := .cleared
  outstanding := none

/-- One port's record replaced. -/
def Ports.withPort (ps : Ports) (p : PortId) (x : Port) : Ports := { ps with port := ps.port.set p x }

/-- A port that transmits nothing begins the waiting effort order, if it has one, and otherwise its oldest waiting reply (R163). -/
def Ports.start (ps : Ports) (p : PortId) : Ports :=
  let port := ps.port.get p
  match port.sending with
  | some _ => ps
  | none =>
    match (if p = .traction then ps.order else none) with
    | some o => { ps.withPort p { port with sending := some o.frame } with order := none }
    | none =>
      match port.replies with
      | [] => ps
      | f :: fs => ps.withPort p { port with sending := some f, replies := fs }

/-- A reply placed in a port's transmit queue (R162, R163). -/
def Ports.place (ps : Ports) (p : PortId) (f : Frame) : Ports :=
  let port := ps.port.get p
  (ps.withPort p { port with replies := port.replies ++ [f] }).start p

/-- An effort order handed to the traction port: it takes the position, and an older one that waits there is not transmitted (R163). -/
def Ports.handOrder (ps : Ports) (o : EffortOrder) : Ports := { ps with order := some o }.start .traction

/-- The frame in transmission has ended, and the next begins (R163). -/
def Ports.endTransmission (ps : Ports) (p : PortId) : Ports :=
  match (ps.port.get p).sending with
  | none => ps
  | some _ => (ps.withPort p { ps.port.get p with sending := none }).start p

/-- The replies a port has waiting, with the place kept for a deferred reply (R161, R167). -/
def Ports.waiting (ps : Ports) (p : PortId) : Nat :=
  (ps.port.get p).replies.length + (if p = .service ∧ ps.outstanding.isSome then 1 else 0)

/-- The transmit queue has room for a reply (R161). -/
def Ports.room (ps : Ports) (p : PortId) : Bool := ps.waiting p < 4

/-- What becomes of a received frame (R161). -/
inductive Verdict where
  | discard
  | answer (r : Result)
  | take
  deriving DecidableEq, Repr

/-- Steps 2 to 7 of R161, with the check for room that comes before step 3. -/
def Ports.judge (ps : Ports) (p : PortId) (kind : Byte) (length : Nat) : Verdict :=
  if isReportCode kind then
    if accepts p kind && reportLength kind = some length then .take else .discard
  else if !ps.room p then .discard
  else
    match requestLength kind with
    | none => .answer .unknownKind
    | some n =>
      if !accepts p kind then .answer .wrongPort
      else if length ≠ n then .answer .badLength
      else if p = .service ∧ ps.outstanding.isSome then .answer .busy
      else .take

/-- A master port refreshes its link (R170). -/
def Ports.refresh (ps : Ports) (m : Master) (now : Nat) : Ports := { ps with link := ps.link.set m ⟨.fresh, now⟩ }

/-- A link becomes LOST; its refresh time stays (R170). -/
def Ports.lose (ps : Ports) (m : Master) : Ports :=
  { ps with link := ps.link.set m { ps.link.get m with state := .lost } }

/-- The live timeout of a master port (R170). -/
def timeoutOf (cfg : ConfigSet) : Master → Nat
  | .cab => cfg.cabTimeout | .traction => cfg.tractionTimeout | .supervision => cfg.supervisionTimeout

/-- A FRESH link whose freshness timer has expired (R170). -/
def Ports.expired (ps : Ports) (cfg : ConfigSet) (now : Nat) (m : Master) : Bool :=
  (ps.link.get m).state = .fresh && ((ps.link.get m).refreshed + timeoutOf cfg m ≤ now)

/-- The OK reply to a RESTART request (R188). -/
def restartReply : Frame := replyFrame kindRestart .ok []

/-- An OK reply to a RESTART request has not yet been transmitted whole (R189). -/
def Ports.restartOwed (ps : Ports) : Bool :=
  ps.port.service.sending = some restartReply || ps.port.service.replies.contains restartReply

end Sys2Proof.Machine
end

