-- ==== Sys2Proof/Machine/Recorder.lean ====
section
/-! DEFINITION. The incident recorder (06_incident_recorder.md): samples and the ring, match slots, incident buffers, the slot directory, and the slots of the NV array with their layouts (section 8.9). -/

namespace Sys2Proof.Machine

/-- The cause of a reset (R121, R185). -/
inductive ResetCause where
  | powerOn | restartLine | serviceRestart
  deriving DecidableEq, Repr

/-- The code of a reset cause (R185), which is also the reset marker of a sample (R178). -/
def ResetCause.code : ResetCause → Nat
  | .powerOn => 1 | .restartLine => 2 | .serviceRestart => 3

/-- One axle's part of a sample (R119), with the adhesion limit that R106 has the recorder see in its samples. DEDUCED: R115, R119 and the layout of section 8.9 give a sample no limit, so that the limit is held here and no byte shows it (log 44). -/
structure SampleAxle where
  state : SlideState
  creep : Nat
  decel : Int
  lim : Nat
  deriving DecidableEq, Repr

/-- A sample record (R119). `marker` is none for NONE. -/
structure Sample where
  marker : Option ResetCause
  reference : Nat
  authority : Nat
  governor : Option Source
  blended : Nat
  airFloor : Nat
  electricOnly : Nat
  sumAch : Nat
  airA : Nat
  airB : Nat
  cylinderA : Nat
  cylinderB : Nat
  pipe : Nat
  axles : PerAxle SampleAxle
  bail : Bool
  sand : Bool
  deficit : Bool
  withdrawn : Bool
  links : PerMaster LinkState
  clamps : ClampFlags
  saturation : Bool
  deriving DecidableEq, Repr

/-- The owners' values a sample event reads (R119), before quantization. -/
structure SampleInputs where
  reference : Nat
  ledger : Ledger
  measured : PerTruck Nat
  pipe : Nat
  slide : PerAxle AxleSlide
  sand : Bool
  links : PerMaster LinkState
  deriving DecidableEq, Repr

/-- A field without a sign quantized (R120): the held value, and whether it saturates. -/
def quantize (step v : Nat) : Nat × Bool :=
  let q := saturate 0 255 (roundHalfAway (v : Int) step)
  (q.1.toNat, q.2)

/-- A deceleration quantized (R120). -/
def quantizeDecel (v : Int) : Int × Bool := saturate (-128) 127 (roundHalfAway v 4)

/-- The sample record built from the owners' values, with its reset marker (R118 step 1, R106, R119, R120). -/
def buildSample (x : SampleInputs) (marker : Option ResetCause) : Sample where
  marker := marker
  reference := x.reference
  authority := x.ledger.demand.authority
  governor := x.ledger.demand.governor
  blended := x.ledger.demand.blended
  airFloor := x.ledger.demand.airFloor
  electricOnly := x.ledger.demand.electricOnly
  sumAch := x.ledger.sumAch
  airA := x.ledger.airForce.a
  airB := x.ledger.airForce.b
  cylinderA := (quantize 2 x.measured.a).1
  cylinderB := (quantize 2 x.measured.b).1
  pipe := (quantize 4 x.pipe).1
  axles := .ofFn fun i =>
    ⟨(x.slide.get i).state, (quantize 4 (x.slide.get i).creep).1, (quantizeDecel (x.slide.get i).decel).1,
      (x.slide.get i).lim⟩
  bail := x.ledger.demand.bail
  sand := x.sand
  deficit := x.ledger.deficitFlag
  withdrawn := x.ledger.withdrawn
  links := x.links
  clamps := x.ledger.clamps
  saturation :=
    (quantize 2 x.measured.a).2 || (quantize 2 x.measured.b).2 || (quantize 4 x.pipe).2
      || Axle.all.any fun i =>
        (quantize 4 (x.slide.get i).creep).2 || (quantizeDecel (x.slide.get i).decel).2

/-! ### Match slots -/

/-- The condition of a match slot (R122). -/
inductive MatchCondition where
  | refAbove | refBelow | creepAbove | pipeBelow | deficitAbove | authorityAtLeast
  deriving DecidableEq, Repr

/-- The condition of a code (section 8.10). -/
def MatchCondition.ofCode (c : Byte) : Option MatchCondition :=
  if c = 0 then some .refAbove else if c = 1 then some .refBelow else if c = 2 then some .creepAbove
  else if c = 3 then some .pipeBelow else if c = 4 then some .deficitAbove else if c = 5 then some .authorityAtLeast
  else none

/-- The top of a condition's threshold range (R123). -/
def MatchCondition.top : MatchCondition → Nat
  | .refAbove | .refBelow => 1600
  | .creepAbove | .pipeBelow => 1000
  | .deficitAbove => 6000
  | .authorityAtLeast => 7

/-- The state of a match slot (R122). -/
inductive MatchState where
  | disarmed | armed | fired
  deriving DecidableEq, Repr

/-- One match slot (R122). -/
structure MatchSlot where
  enabled : Bool
  condition : MatchCondition
  axle : Byte
  threshold : Nat
  state : MatchState
  deriving DecidableEq, Repr

/-- A match slot at a power-on reset (R122). -/
def MatchSlot.afterPowerOn : MatchSlot := ⟨false, .refAbove, 1, 0, .disarmed⟩

/-- The axle of a number 1..6. -/
def axleOf (n : Byte) : Option Axle := Axle.all.find? fun i => i.number = n.toNat

/-- The condition of a slot holds of a sample's owner values (R123). -/
def MatchSlot.holds (x : SampleInputs) (m : MatchSlot) : Bool :=
  match m.condition with
  | .refAbove => m.threshold < x.reference
  | .refBelow => x.reference < m.threshold
  | .creepAbove =>
    match axleOf m.axle with
    | some i => m.threshold < (x.slide.get i).creep
    | none => false
  | .pipeBelow => x.pipe < m.threshold
  | .deficitAbove => m.threshold < x.ledger.deficit
  | .authorityAtLeast => m.threshold ≤ x.ledger.demand.authority

/-- A slot's next state at a sample event (R123). -/
def MatchSlot.evaluate (x : SampleInputs) (m : MatchSlot) : MatchSlot :=
  match m.state, m.holds x with
  | .armed, true => { m with state := .fired }
  | .fired, false => { m with state := .armed }
  | _, _ => m

/-- A slot fires at a sample event (R123). -/
def MatchSlot.fires (x : SampleInputs) (m : MatchSlot) : Bool := m.state = .armed && m.holds x

/-- The slot a SET MATCH writes, and its number; none where the request is refused with RANGE (R122). -/
def judgeMatch (slot enabled condition axle : Byte) (threshold : Word16) : Option (Fin 4 × MatchSlot) :=
  if h : slot.toNat < 4 then
    if 1 < enabled.toNat then none
    else
      match MatchCondition.ofCode condition with
      | none => none
      | some c =>
        if c = .creepAbove ∧ (axleOf axle).isNone then none
        else if MatchCondition.top c < threshold.toNat then none
        else some (⟨slot.toNat, h⟩,
          ⟨enabled = 1, c, axle, threshold.toNat, if enabled = 1 then .armed else .disarmed⟩)
  else none

/-! ### Incident buffers -/

/-- The state of an incident buffer (R126). -/
inductive BufferState where
  | free | capturing | awaitingSeal | sealing
  deriving DecidableEq, Repr

/-- One entry of a trigger list (R126). -/
structure TriggerEntry where
  trigger : Trigger
  offset : Nat
  late : Bool
  deriving DecidableEq, Repr

/-- An incident buffer (R126). -/
structure Buffer where
  state : BufferState
  sequence : Nat
  time : Nat
  distance : Word32
  configSequence : Word32
  entries : List TriggerEntry
  further : Nat
  pre : List Sample
  window : Nat
  post : List Sample
  position : Nat
  truncated : Bool
  autoLockDenied : Bool
  deriving DecidableEq, Repr

/-- A FREE buffer as a power-on reset leaves it (R146). -/
def Buffer.free : Buffer := ⟨.free, 0, 0, 0, 0, [], 0, [], 0, [], 0, false, false⟩

/-- The largest value of a trigger's sample offset, of a position and of the further-trigger count (R126). -/
def topCount : Nat := 65535

/-- A trigger joins a buffer (R128). -/
def Buffer.join (t : Trigger) (b : Buffer) : Buffer :=
  if b.entries.length < 6 then
    { b with entries := b.entries ++ [⟨t, b.position, b.state = .awaitingSeal⟩] }
  else { b with further := min (b.further + 1) topCount }

/-- The newest samples of a ring, up to a number (R127). -/
def newest (n : Nat) (ring : List Sample) : List Sample := ring.drop (ring.length - n)

/-- A trigger opens a FREE buffer (R127). -/
def Buffer.open (cfg : ConfigSet) (now : Nat) (distance configSequence : Word32) (sequence : Nat) (ring : List Sample)
    (t : Trigger) : Buffer :=
  let pre := newest cfg.preSamples ring
  { state := .capturing
    sequence := sequence
    time := now
    distance := distance
    configSequence := configSequence
    entries := [⟨t, pre.length, false⟩]
    further := 0
    pre := pre
    window := cfg.postSamples
    post := []
    position := pre.length
    truncated := false
    autoLockDenied := false }

/-- A buffer at a sample event (R118 step 3, R129). -/
def Buffer.sample (x : Sample) (b : Buffer) : Buffer :=
  match b.state with
  | .capturing =>
    let post := b.post ++ [x]
    { b with
      post := post
      position := min (b.position + 1) topCount
      state := if b.window ≤ post.length then .awaitingSeal else .capturing }
  | .awaitingSeal => { b with position := min (b.position + 1) topCount }
  | .free | .sealing => b

/-- A buffer at a warm restart (R145). -/
def Buffer.atRestart (b : Buffer) : Buffer :=
  if b.state = .capturing then { b with state := .awaitingSeal, truncated := true } else b

/-! ### The directory and the recorder -/

/-- The state of an incident slot (R133). -/
inductive SlotState where
  | empty | sealing | sealed | damaged
  deriving DecidableEq, Repr

/-- The code of a slot state (section 8.9). -/
def SlotState.code : SlotState → Nat
  | .empty => 0 | .sealing => 1 | .sealed => 2 | .damaged => 3

/-- One entry of the slot directory (R133). `kind` is the code of the first trigger's kind. -/
structure DirEntry where
  state : SlotState
  lock : Bool
  sequence : Nat
  kind : Nat
  deriving DecidableEq, Repr

/-- The recorder's state (R121, R122, R126, R133, R134). `marker` is the cause the next sample is to carry. `shown` holds, for each slot, the sequence number that the latest READ INCIDENT part 0 found while the slot held an incident, and 0 otherwise: the model's own field, for the last sentence of R137 (log 39). -/
structure Recorder where
  ring : List Sample
  slots : Vector MatchSlot 4
  buffers : Vector Buffer 2
  directory : Vector DirEntry 12
  nextSequence : Nat
  marker : Option ResetCause
  shown : Vector Nat 12
  deriving DecidableEq, Repr

/-- The largest sequence number (R126). -/
def lastSequence : Nat := 4294967295

/-- The sequence number after one: it advances by one (R127); past the largest, no rule states a value (log 11). -/
def sequenceAfter (draw n : Nat) : Nat :=
  if n < lastSequence then n + 1 else (Config.sequenceAfterLast draw).toNat

/-- The ring with a sample appended: at most 64, the oldest dropped (R121). -/
def pushRing (ring : List Sample) (x : Sample) : List Sample :=
  if ring.length < 64 then ring ++ [x] else (ring ++ [x]).drop (ring.length - 63)

/-- The lower-numbered buffer in a state (R125). -/
def bufferIn (bs : Vector Buffer 2) (st : BufferState) : Option (Fin 2) :=
  ([0, 1] : List (Fin 2)).find? fun i => (bs[i]).state = st

/-- The AWAITING_SEAL buffer that `better` prefers by its sequence number. -/
def awaitingBy (better : Nat → Nat → Bool) (bs : Vector Buffer 2) : Option (Fin 2) :=
  match (bs[0]).state, (bs[1]).state with
  | .awaitingSeal, .awaitingSeal => if better (bs[0]).sequence (bs[1]).sequence then some 0 else some 1
  | .awaitingSeal, _ => some 0
  | _, .awaitingSeal => some 1
  | _, _ => none

/-- The AWAITING_SEAL buffer with the higher sequence number (R125). -/
def newestAwaiting (bs : Vector Buffer 2) : Option (Fin 2) := awaitingBy (fun a b => b < a) bs

/-- The AWAITING_SEAL buffer with the lower sequence number (R130). -/
def oldestAwaiting (bs : Vector Buffer 2) : Option (Fin 2) := awaitingBy (fun a b => a < b) bs

/-- What a trigger's arrival does (R125): it joins a buffer, opens one, or finds none. -/
inductive ArrivalPlace where
  | join (b : Fin 2)
  | opens (b : Fin 2)
  | nowhere
  deriving DecidableEq, Repr

/-- The first row of R125 that applies. -/
def arrivalPlace (bs : Vector Buffer 2) : ArrivalPlace :=
  match bufferIn bs .capturing with
  | some b => .join b
  | none =>
    match bufferIn bs .free with
    | some b => .opens b
    | none =>
      match newestAwaiting bs with
      | some b => .join b
      | none => .nowhere

/-- One buffer replaced. -/
def Recorder.withBuffer (r : Recorder) (i : Fin 2) (b : Buffer) : Recorder := { r with buffers := r.buffers.set i b }

/-- A trigger arrives at the recorder (R125, R127, R128). -/
def Recorder.arrive (cfg : ConfigSet) (now : Nat) (distance configSequence : Word32) (draw : Nat) (t : Trigger)
    (r : Recorder) : Recorder :=
  match arrivalPlace r.buffers with
  | .join i => r.withBuffer i ((r.buffers[i]).join t)
  | .opens i =>
    { r.withBuffer i (Buffer.open cfg now distance configSequence r.nextSequence r.ring t) with
      nextSequence := sequenceAfter draw r.nextSequence }
  | .nowhere => r

/-- Whether an arrival draws the free value of log 11. -/
def Recorder.arrivalDraws (r : Recorder) : Bool :=
  match arrivalPlace r.buffers with
  | .opens _ => lastSequence ≤ r.nextSequence
  | _ => false

/-- Steps 1 to 3 of a sample event (R118), but for the placing of a seal. -/
def Recorder.takeSample (x : SampleInputs) (r : Recorder) : Recorder :=
  let s := buildSample x r.marker
  { r with
    marker := none
    ring := pushRing r.ring s
    buffers := Vector.ofFn fun i => (r.buffers[i]).sample s }

/-- Step 4 of a sample event: the match slots' next states (R123). -/
def Recorder.evaluateSlots (x : SampleInputs) (r : Recorder) : Recorder :=
  { r with slots := Vector.ofFn fun i => (r.slots[i]).evaluate x }

/-- The MATCH triggers of a sample event, in ascending slot number (R123). -/
def Recorder.matchTriggers (x : SampleInputs) (r : Recorder) : List Trigger :=
  ([0, 1, 2, 3] : List (Fin 4)).filterMap fun i => if (r.slots[i]).fires x then some (.matched i) else none

/-- The slots in ascending number. -/
def allSlots : List (Fin 12) := [0, 1, 2, 3, 4, 5, 6, 7, 8, 9, 10, 11]

/-- The number of locked slots (R133). -/
def lockedCount (d : Vector DirEntry 12) : Nat := (allSlots.filter fun i => (d[i]).lock).length

/-- The most slots that may be locked (R133). -/
def maxLocked : Nat := 8

/-- The unlocked SEALED slot with the lowest sequence number (R131). -/
def oldestUnlocked (d : Vector DirEntry 12) : Option (Fin 12) :=
  allSlots.foldl (fun best i =>
    if (d[i]).state = .sealed ∧ !(d[i]).lock then
      match best with
      | none => some i
      | some b => if (d[i]).sequence < (d[b]).sequence then some i else some b
    else best) none

/-- The slot a seal takes (R131). -/
def chooseSlot (d : Vector DirEntry 12) : Option (Fin 12) :=
  match allSlots.find? fun i => (d[i]).state = .empty with
  | some i => some i
  | none =>
    match allSlots.find? fun i => (d[i]).state = .damaged with
    | some i => some i
    | none => oldestUnlocked d

/-- One directory entry replaced. -/
def Recorder.withEntry (r : Recorder) (i : Fin 12) (e : DirEntry) : Recorder :=
  { r with directory := r.directory.set i e }

/-- The slot number that a byte of a request names; none outside 0..11. -/
def slotNumber (b : Byte) : Option (Fin 12) := if h : b.toNat < 12 then some ⟨b.toNat, h⟩ else none

/-- The recorder at a warm restart (R145). -/
def Recorder.afterWarm (cause : ResetCause) (r : Recorder) : Recorder :=
  { r with buffers := Vector.ofFn fun i => (r.buffers[i]).atRestart, marker := some cause }

/-! ### Codes and layouts -/

/-- The code of a trigger's kind (section 8.10). -/
def triggerKind : Trigger → Nat
  | .emergencyAccepted _ => 1 | .penaltyAccepted _ => 2 | .persistentSlide _ => 3 | .effortDeficit _ => 4
  | .linkLost _ => 5 | .freeze _ => 6 | .matched _ => 7 | .pressureFault _ => 8 | .tachFault _ => 9
  | .valveFault _ => 10 | .responseFault _ => 11

/-- The 16-bit detail of a trigger (section 8.10). -/
def triggerDetail : Trigger → Nat
  | .emergencyAccepted .cab => 0 | .emergencyAccepted .supervision => 1
  | .emergencyAccepted .line => 2 | .emergencyAccepted .pipe => 3
  | .penaltyAccepted .s5 => 0x0500
  | .penaltyAccepted (.s6 .cabLost) => 0x0601
  | .penaltyAccepted (.s6 .supervisionLost) => 0x0602
  | .persistentSlide i => i.number
  | .effortDeficit d => d
  | .linkLost .cab => 0 | .linkLost .traction => 1 | .linkLost .supervision => 2
  | .freeze tag => tag.toNat
  | .matched i => i.val
  | .pressureFault .bcA => 0 | .pressureFault .bcB => 1 | .pressureFault .pipe => 2
  | .tachFault i => i.number
  | .valveFault d => d.val
  | .responseFault .a => 0 | .responseFault .b => 1

/-- Whether a trigger is EMERGENCY_ACCEPTED (R131). -/
def isEmergency : Trigger → Bool
  | .emergencyAccepted _ => true
  | _ => false

/-- The five bytes of a trigger entry (section 8.9). -/
def TriggerEntry.bytes (e : TriggerEntry) : List Byte :=
  byteOf (bitFlag e.late 7 + triggerKind e.trigger) :: two (triggerDetail e.trigger) ++ two e.offset

/-- The code of a slide state (section 8.9). -/
def SlideState.code : SlideState → Nat
  | .adhering => 0 | .suspect => 1 | .sliding => 2 | .recovering => 3 | .persistent => 4 | .faulted => 5

/-- The code of a link state (section 8.9). -/
def LinkState.code : LinkState → Nat
  | .awaiting => 0 | .fresh => 1 | .lost => 2

/-- Three link states in six bits: cab, traction, supervision (section 8.9). -/
def linkBits (l : PerMaster LinkState) : Nat := l.cab.code * 16 + l.traction.code * 4 + l.supervision.code

/-- The clamp flags in three bits: INPUT, PRESSURE, RANGE (section 8.9). -/
def clampBits (c : ClampFlags) : Nat := bitFlag c.input 2 + bitFlag c.pressure 1 + bitFlag c.range 0

/-- The 35 bytes of a sample record (section 8.9); they hold no adhesion limit (log 44). -/
def Sample.bytes (s : Sample) : List Byte :=
  let governor := match s.governor with
    | some g => g.number
    | none => 15
  let states := s.axles.toList.foldl (fun n a => n * 8 + a.state.code) 0 * 64
  [byteOf (bitFlag s.saturation 7 + s.authority * 16 + governor),
   byteOf ((match s.marker with | some c => c.code | none => 0) * 64 + linkBits s.links),
   byteOf (bitFlag s.bail 7 + bitFlag s.sand 6 + bitFlag s.deficit 5 + bitFlag s.withdrawn 4 + clampBits s.clamps)]
  ++ two s.reference ++ two s.blended ++ two s.airFloor ++ two s.electricOnly ++ two s.sumAch
  ++ two s.airA ++ two s.airB
  ++ [byteOf s.cylinderA, byteOf s.cylinderB, byteOf s.pipe]
  ++ (four states).drop 1
  ++ s.axles.toList.map (fun a => byteOf a.creep)
  ++ s.axles.toList.map (fun a => BitVec.ofInt 8 a.decel)

/-- The length of a sample record (section 8.9). -/
def sampleLength : Nat := 35

/-- The body of a slot: the pre-samples and then the post samples (R132). -/
def Buffer.body (b : Buffer) : List Byte := (b.pre ++ b.post).flatMap Sample.bytes

/-- The code of a buffer's first trigger kind (R131). -/
def Buffer.firstKind (b : Buffer) : Nat :=
  match b.entries with
  | [] => 0
  | e :: _ => triggerKind e.trigger

/-- Bytes 2 to 55 of the header a seal writes (R132, section 8.9). DEDUCED: they carry the configuration sequence alone, as R126, R127 and the layout say, though R184 says that the configuration state is carried too (log 43). -/
def Buffer.headerFields (b : Buffer) : List Byte :=
  let entries := b.entries.flatMap TriggerEntry.bytes
  four b.sequence ++ [byteOf b.firstKind] ++ four b.time ++ bytes32 b.distance ++ bytes32 b.configSequence
  ++ [byteOf b.entries.length] ++ entries ++ List.replicate (30 - entries.length) 0
  ++ two b.further ++ [byteOf b.pre.length, byteOf b.window, byteOf b.post.length,
      byteOf (bitFlag b.truncated 1 + bitFlag b.autoLockDenied 0)]

/-- The slot CRC of a buffer: over the header fields but the state and the lock, and then the body (R144). -/
def Buffer.slotCrc (b : Buffer) : Word16 := crc16 (b.headerFields ++ b.body)

/-- One incident slot as the NV array holds it: the bytes of its header, and those of its body (section 8.9). -/
structure NvSlot where
  header : List Byte
  body : List Byte
  deriving DecidableEq, Repr

/-- The slot that a seal has written: header with a state and a lock, body and CRC (R132). -/
def sealedSlot (b : Buffer) (state : SlotState) (lock : Bool) : NvSlot :=
  ⟨[byteOf state.code, byteOf (bitFlag lock 0)] ++ b.headerFields ++ bytes16 b.slotCrc, b.body⟩

/-- The slot that power loss leaves of a seal whose header had been written with state SEALING (R132): `n` bytes of the body are written, and the CRC bytes if `crc`. What is not yet written is a free value of draw `k` (log 10). -/
def interruptedSlot (k : Nat) (b : Buffer) (n : Nat) (crc : Bool) : NvSlot :=
  ⟨[byteOf SlotState.sealing.code, 0] ++ b.headerFields
      ++ (if crc then bytes16 b.slotCrc else [Config.unwrittenCrcByte k 0, Config.unwrittenCrcByte k 1]),
    b.body.take n ++ (List.range (b.body.length - n)).map fun i => Config.unwrittenBodyByte k (n + i)⟩

/-- The header an erase writes: state EMPTY, lock clear, the sequence number and first trigger kind kept (R142). The bytes it says nothing of are free values of draw `k` (log 8). -/
def erasedHeader (k : Nat) (header : List Byte) : List Byte :=
  [0, 0] ++ (header.drop 2).take 5 ++ (List.range 51).map fun i => Config.erasedHeaderByte k (7 + i)

/-- A body of which an erase has cleared the first `n` bytes (R142, log 9). -/
def clearedBody (k n : Nat) (body : List Byte) : List Byte :=
  ((List.range (min n body.length)).map fun i => Config.clearedBodyByte k i) ++ body.drop n

/-- A slot never written since manufacture: EMPTY, sequence number 0, first trigger kind NONE (R133). Its other header bytes are free values of draw `k` (log 8). -/
def blankSlot (k : Nat) : NvSlot := ⟨erasedHeader k (List.replicate 58 0), []⟩

/-- A stored number in a slot's header. -/
def NvSlot.field (s : NvSlot) (pos n : Nat) : Nat := numberAt s.header pos n

/-- The number of samples a header stores, limited to 50 and 100 (R137). -/
def NvSlot.samples (s : NvSlot) : Nat := min (s.field 52 1) 50 + min (s.field 54 1) 100

/-- The CRC of a slot computed over its header fields and its body (R144). -/
def NvSlot.computedCrc (s : NvSlot) : Nat :=
  (crc16 ((s.header.drop 2).take 54 ++ s.body.take (sampleLength * (s.field 52 1 + s.field 54 1)))).toNat

/-- The directory entry of a slot at the power-on scan (R135). -/
def NvSlot.scan (s : NvSlot) : DirEntry :=
  let seq := s.field 2 4
  let kind := s.field 6 1
  if s.field 0 1 = 0 then ⟨.empty, false, seq, kind⟩
  else if s.field 0 1 = 2 ∧ s.computedCrc = s.field 56 2 then ⟨.sealed, s.field 1 1 = 1, seq, kind⟩
  else ⟨.damaged, false, seq, kind⟩

/-- The directory that the power-on scan builds (R135). -/
def scanSlots (slots : Vector NvSlot 12) : Vector DirEntry 12 := Vector.ofFn fun i => (slots[i]).scan

/-- The largest sequence number of the twelve headers (R134). -/
def largestSequence (d : Vector DirEntry 12) : Nat := allSlots.foldl (fun m i => max m (d[i]).sequence) 0

/-- The recorder after a power-on reset (R134, R135, R146). -/
def Recorder.afterPowerOn (draw : Nat) (slots : Vector NvSlot 12) : Recorder where
  ring := []
  slots := Vector.ofFn fun _ => MatchSlot.afterPowerOn
  buffers := Vector.ofFn fun _ => Buffer.free
  directory := scanSlots slots
  nextSequence := sequenceAfter draw (largestSequence (scanSlots slots))
  marker := some .powerOn
  shown := Vector.ofFn fun _ => 0

/-- A header as READ INCIDENT part 0 carries it (R137): state and lock from the directory; an EMPTY slot shows its sequence number and first kind, no trigger entries and sample counts of 0; the sample counts of a DAMAGED slot are limited. -/
def readHeader (e : DirEntry) (s : NvSlot) : List Byte :=
  let status := [byteOf e.state.code, byteOf (bitFlag e.lock 0)]
  match e.state with
  | .empty =>
    status ++ four e.sequence ++ [byteOf e.kind] ++ (s.header.drop 7).take 12
    ++ List.replicate 31 0 ++ (s.header.drop 50).take 2 ++ [0] ++ (s.header.drop 53).take 1 ++ [0]
    ++ (s.header.drop 55).take 3
  | _ =>
    status ++ (s.header.drop 2).take 50 ++ [byteOf (min (s.field 52 1) 50)] ++ (s.header.drop 53).take 1
    ++ [byteOf (min (s.field 54 1) 100)] ++ (s.header.drop 55).take 3

/-- The samples of READ INCIDENT part n, n from 1 (R137). DESIGN CHOICE: the limits on the counts of a DAMAGED slot bound how many records are read and leave no gap, so that behind a stored pre-sample count above 50 sample 50 is the record 50 of the body (log 45). -/
def readPart (e : DirEntry) (s : NvSlot) (part : Nat) : List Byte :=
  match e.state with
  | .empty => []
  | _ => (s.body.drop (sampleLength * (4 * (part - 1)))).take (sampleLength * min 4 (s.samples - 4 * (part - 1)))

/-- A later part of a slot erased since its part 0 was read (R137, last sentence): `shown` is the number that part 0 showed of the slot's incident. DEDUCED: the table of R137 alone gives OK here, since an erase keeps the sequence number (R142); the model follows the sentence (log 39). -/
def erasedMeanwhile (e : DirEntry) (shown : Nat) (expected : Word32) (part : Byte) : Bool :=
  e.state = .empty && shown = e.sequence && expected ≠ 0 && part ≠ 0

/-- The result and data of a READ INCIDENT (R137, log 39). -/
def readIncident (r : Recorder) (slots : Vector NvSlot 12) (slot : Byte) (expected : Word32) (part : Byte) :
    Result × List Byte :=
  match slotNumber slot with
  | none => (.range, [])
  | some i =>
    let e := r.directory[i]
    if e.state = .sealing then (.busy, [])
    else if expected ≠ 0 ∧ expected.toNat ≠ e.sequence then (.changed, [])
    else if erasedMeanwhile e r.shown[i] expected part then (.changed, [])
    else
      (.ok, slot :: part :: (if part = 0 then readHeader e slots[i] else readPart e slots[i] part.toNat))

/-- The sequence number that part 0 of a slot shows of an incident: 0 where the slot is EMPTY and holds none (log 39). -/
def DirEntry.incident (e : DirEntry) : Nat := if e.state = .empty then 0 else e.sequence

/-- The recorder after a READ INCIDENT: one of part 0 that was answered OK is remembered for its slot (R137, log 39). -/
def Recorder.afterRead (slot part : Byte) (result : Result) (r : Recorder) : Recorder :=
  match slotNumber slot with
  | none => r
  | some i =>
    if part = 0 ∧ result = .ok then { r with shown := r.shown.set i (r.directory[i]).incident } else r

/-- The data of a LIST INCIDENTS (R136, section 8.9). -/
def listData (r : Recorder) : List Byte :=
  (allSlots.flatMap fun i =>
    let e := r.directory[i]
    byteOf (bitFlag e.lock 7 + e.state.code) :: four e.sequence ++ [byteOf e.kind])
  ++ [byteOf (lockedCount r.directory)] ++ four r.nextSequence

end Sys2Proof.Machine
end

