-- ==== Sys2Proof/Machine/Nv.lean ====
section
/-! DEFINITION. The configuration store, the configuration image and the NV store controller (09_configuration_set_and_non_volatile_store.md). -/

namespace Sys2Proof.Machine

/-- The configuration state (R180). -/
inductive ConfigState where
  | valid | defaulted
  deriving DecidableEq, Repr

/-- The configuration store (R180). The sequence wraps as its 32 bits do (R182). -/
structure Store where
  live : ConfigSet
  state : ConfigState
  sequence : Word32
  deriving DecidableEq, Repr

/-- The configuration image in the NV array (R183). Its byte layout is not given, so `crcOk` stands for its CRC (log 12). -/
structure ConfigImage where
  live : ConfigSet
  table : ChannelTable
  sequence : Word32
  state : ConfigState
  crcOk : Bool
  deriving DecidableEq, Repr

/-- An image whose CRC fails (R183): what a store cut off by power loss leaves, and what the array of State.reset holds (log 5). -/
def ConfigImage.bad : ConfigImage := ⟨.defaults, defaultTable, 0, .defaulted, false⟩

/-- An image that a power-on reset takes (R149, R184). -/
def ConfigImage.good (i : ConfigImage) : Bool := i.crcOk && i.live.legal && tableOk i.table

/-- The configuration store after a power-on reset (R184). -/
def Store.afterPowerOn (i : ConfigImage) : Store :=
  if i.good then ⟨i.live, i.state, i.sequence⟩ else ⟨.defaults, .defaulted, 0⟩

/-- The channel table after a power-on reset (R149, R184). -/
def tableAfterPowerOn (i : ConfigImage) : ChannelTable := if i.good then i.table else defaultTable

/-- A service operation with what its request noted (R139, R142, R156, R182). A configuration store writes a parameter for WRITE CONFIG, and none for CONFIRM CONFIG. -/
inductive ServiceOp where
  | configStore (write : Option (Param × Nat))
  | assignStore (channel : Fin 22) (function : ChanFn)
  | lock (slot : Fin 12) (sequence : Nat)
  | unlock (slot : Fin 12)
  | erase (slot : Fin 12) (sequence : Nat)
  deriving DecidableEq, Repr

/-- The operation in flight (R186). A seal keeps its buffer, its slot, whether it is to auto-lock (R131), and whether step 4 has been reported; an erase keeps whether its header write has. -/
inductive NvOp where
  | sealing (buffer : Fin 2) (slot : Fin 12) (autoLock stateWritten : Bool)
  | service (op : ServiceOp) (headerWritten : Bool)
  deriving DecidableEq, Repr

/-- The NV store controller (R186). -/
structure NvController where
  inFlight : Option NvOp
  recorderWait : Option (Fin 2)
  serviceWait : Option ServiceOp
  deriving DecidableEq, Repr

/-- A controller with nothing in flight and nothing waiting (R190). -/
def NvController.empty : NvController := ⟨none, none, none⟩

/-- What the NV array keeps (R183, R133). -/
structure NvArray where
  image : ConfigImage
  slots : Vector NvSlot 12
  deriving DecidableEq, Repr

/-- The array of a part that has never been written (log 5). -/
def NvArray.blank : NvArray := ⟨.bad, Vector.ofFn fun i => blankSlot i.val⟩

/-- One slot of the array replaced. -/
def NvArray.withSlot (a : NvArray) (i : Fin 12) (s : NvSlot) : NvArray := { a with slots := a.slots.set i s }

/-- A slot whose header lock flag has been written (R139, R140). -/
def NvSlot.withLock (lock : Bool) (s : NvSlot) : NvSlot :=
  { s with header := s.header.set 1 (byteOf (bitFlag lock 0)) }

/-- The judgement of a WRITE CONFIG (R182): a refusal, or the write that is placed. -/
def judgeWrite (live : ConfigSet) (standstill : Bool) (code : Byte) (value : Word32) : Except Result (Param × Nat) :=
  match paramRow code with
  | none => .error .range
  | some row =>
    if value.toNat < row.lo ∨ row.hi < value.toNat then .error .range
    else if !standstill then .error .notStandstill
    else if !(live.put row.param value.toNat).crossOk then .error .inconsistent
    else .ok (row.param, value.toNat)

end Sys2Proof.Machine
end

