-- ==== Sys2Proof/Machine/State.lean ====
section
/-! DEFINITION. The state of the part as plain data, the reasons a command can stop, and the state after reset. -/

namespace Sys2Proof.Machine

/-- Why the part could stop with a fault. It has no constructor: no rule of the spec stops the part, so no command raises a fault. -/
inductive Fault where
  deriving DecidableEq, Repr

/-- Why a command could be refused. -/
inductive Refusal where
  /-- Raised by an arm of exec whose command has no meaning yet; none is left (safe). -/
  | notModelled (mnemonic : String)
  deriving DecidableEq, Repr

/-- When each interval timer was last started: at the reset, or at its latest expiry (00_scope.md, Time bases). -/
structure Timers where
  window : Nat
  truck : PerTruck Nat
  pipe : Nat
  blend : Nat
  sample : Nat
  deriving DecidableEq, Repr

/-- Every timer started at one moment. -/
def Timers.started (now : Nat) : Timers := ⟨now, ⟨now, now⟩, now, now, now⟩

/-- The state of the JF-640. `pending` is the queue of commands that wait; `deliveries` holds, oldest first, what blocks of the part have delivered to one another and the receiver has not yet taken (log 3); `draws` counts the free values drawn. -/
structure State where
  pending : List Instr
  deliveries : List Instr
  powered : Bool
  time : Nat
  timers : Timers
  emergencyLine : Bool
  restartLine : Bool
  arbiter : Arbiter
  ledger : Ledger
  loops : PerTruck TruckLoop
  watch : PipeWatch
  monitor : Monitor
  slide : Slide
  recorder : Recorder
  matrix : Matrix
  ports : Ports
  store : Store
  nv : NvController
  array : NvArray
  restart : Option ResetCause
  lastReset : ResetCause
  draws : Nat
  deriving DecidableEq, Repr

/-- The channels of the TACH functions in a table. -/
def tachChannels (t : ChannelTable) : PerAxle (Option (Fin 8)) := .ofFn fun i => tachChannel t i

/-- The pins and the matrix of a part before its first power-on reset: no load is faulted and every loop carries 4 mA (log 6). -/
def Matrix.unpowered : Matrix where
  table := defaultTable
  functions := .off
  generalOut := .ofFn fun _ => false
  health := .ofFn fun _ => .ok
  marks := .ofFn fun _ => false
  pulses := .ofFn fun _ => .afterReset
  loops := .ofFn fun _ => 4000

/-- The part right after a power-on reset with neither line asserted and an array that has never been written (R29, R33, R73, R89, R117, R146, R158, R176, R184; log 5, log 6). -/
def State.reset : State :=
  let store := Store.afterPowerOn NvArray.blank.image
  let arbiter := Arbiter.afterReset store.live 0 false (store.state = .valid)
  { pending := []
    deliveries := []
    powered := true
    time := 0
    timers := .started 0
    emergencyLine := false
    restartLine := false
    arbiter := arbiter
    ledger := .afterReset arbiter.record
    loops := ⟨.afterReset, .afterReset⟩
    watch := .afterReset
    monitor := .afterReset (tachChannels defaultTable) 0 0
    slide := .afterReset store.live
    recorder := .afterPowerOn 0 NvArray.blank.slots
    matrix := Matrix.unpowered
    ports := .afterReset
    store := store
    nv := .empty
    array := .blank
    restart := none
    lastReset := .powerOn
    draws := 12 }

end Sys2Proof.Machine
end

