-- ==== Sys2Proof/Machine/Ops.lean ====
section
/-! DEFINITION. The named operations over the state that the commands share: deliveries, the arbiter's events, replies and the taking of a request, effort orders, link states, the recorder's arrivals, the NV store controller, and the resets. -/

namespace Sys2Proof.Machine

/-- The live configuration set. -/
def State.cfg (s : State) : ConfigSet := s.store.live

/-- What a block hands to others, to be taken by them as events of their own (log 3). -/
def State.deliver (s : State) (ds : List Instr) : State := { s with deliveries := s.deliveries ++ ds }

/-- A command of a part that has power; without power nothing happens (log 7). -/
def powered (f : State → State) (s : State) : Host.Outcome State Fault Refusal :=
  .next (if s.powered then f s else s)

/-- An event that one block may have delivered to another: its oldest delivery, if it waits, is taken (log 3). -/
def delivered (c : Instr) (f : State → State) (s : State) : Host.Outcome State Fault Refusal :=
  powered f { s with deliveries := s.deliveries.erase c }

/-! ### The channel matrix -/

/-- An owner hands a new state of a function to the matrix (R150). -/
def State.switch (s : State) (f : ChanFn) (on : Bool) : State :=
  { s with matrix := { s.matrix with functions := s.matrix.functions.switch f on } }

/-! ### The demand arbiter -/

/-- A source's entry has left IDLE in an event. -/
def leftIdle (before after : Arbiter) (src : Source) : Bool := !before.nonIdle src && after.nonIdle src

/-- What an event of the arbiter delivers: the emergency notice, S8's leaving IDLE and EMERGENCY_ACCEPTED (R20, R110), and PENALTY_ACCEPTED (R25). -/
def arbiterDeliveries (before after : Arbiter) : List Instr :=
  (if leftIdle before after .s8 then
    [.emergencyNotice, .s8LeavesIdle, .triggerArrival (.emergencyAccepted after.emergencyRaisers.first)] else [])
  ++ (if leftIdle before after .s5 then [.triggerArrival (.penaltyAccepted .s5)] else [])
  ++ (if leftIdle before after .s6 then [.triggerArrival (.penaltyAccepted (.s6 after.lossRaisers.first))] else [])

/-- The emergency vent follows S8 (R66). -/
def ventFunctions (before after : Arbiter) (fs : FnStates) : FnStates :=
  if before.nonIdle .s8 = after.nonIdle .s8 then fs else fs.switch .emergencyVent (after.nonIdle .s8)

/-- One event of the arbiter, applied in the order of R8: the changes of `f`, then the entries that go and leave IDLE, then the record, the notice and the triggers. -/
def State.arbiterEvent (f : Arbiter → Arbiter) (s : State) : State :=
  let after := Arbiter.settle s.cfg s.time (f s.arbiter)
  { s with
    arbiter := after
    matrix := { s.matrix with functions := ventFunctions s.arbiter after s.matrix.functions }
    deliveries := s.deliveries ++ arbiterDeliveries s.arbiter after }

/-- The clamp notice that the arbiter passes to the blend engine (R9, R35). -/
def State.clampNotice (clamped : Bool) (s : State) : State :=
  { s with ledger := { s.ledger with pendingInput := s.ledger.pendingInput || clamped } }

/-! ### The blend engine's orders -/

/-- The adhesion limits that the slide table holds (R106). -/
def State.limits (s : State) : PerAxle Nat := .ofFn fun i => (s.slide.axles.get i).lim

/-- An effort order is built and handed to the traction port (R50). -/
def State.order (reason : OrderReason) (s : State) : State :=
  let l := s.ledger.ordered s.arbiter.record.emergency s.limits reason
  { s with ledger := l, ports := s.ports.handOrder ⟨l.cmd, reason⟩ }

/-- The engine takes the emergency notice (R53). -/
def State.emergencyOrder (s : State) : State := State.order .emergency { s with ledger := s.ledger.zeroed }

/-! ### The link ports -/

/-- A reply is placed in a port's transmit queue (R162). -/
def State.reply (p : PortId) (kind : Byte) (r : Result) (data : List Byte) (s : State) : State :=
  { s with ports := s.ports.place p (replyFrame kind r data) }

/-- A master port refreshes its link; a change to FRESH of the cab or supervision link is delivered to the arbiter (R164, R170, R172, R173). -/
def State.refreshLink (m : Master) (s : State) : State :=
  let was := (s.ports.link.get m).state
  let t := { s with ports := s.ports.refresh m s.time }
  if was = .fresh then t
  else
    match m with
    | .cab => t.arbiterEvent .takeCabFresh
    | .supervision => t.arbiterEvent .takeSupervisionFresh
    | .traction => t

/-- A master port's link becomes LOST, with the consequences of R172 to R174. -/
def State.loseLink (m : Master) (s : State) : State :=
  let t := { s with ports := s.ports.lose m }
  match m with
  | .cab => (t.deliver [.triggerArrival (.linkLost .cab)]).arbiterEvent .takeCabLost
  | .supervision => (t.deliver [.triggerArrival (.linkLost .supervision)]).arbiterEvent .takeSupervisionLost
  | .traction => if 0 < t.ledger.cmd.sum then t.deliver [.triggerArrival (.linkLost .traction)] else t

/-- A frame has been received: its port hunts for the next, and the supervision port refreshes its link (R160, R161 step 1). -/
def State.received (p : PortId) (s : State) : State :=
  let t := { s with ports := s.ports.withPort p { s.ports.port.get p with assembly := .hunt } }
  if p = .supervision then t.refreshLink .supervision else t

/-- A frame is judged by R161, and taken by `act` at step 7. -/
def State.takeFrame (p : PortId) (kind : Byte) (length : Nat) (act : State → State) (s : State) : State :=
  let t := s.received p
  match t.ports.judge p kind length with
  | .discard => t
  | .answer r => t.reply p kind r []
  | .take => act t

/-- A deferred reply is placed, and the outstanding-request flag is cleared (R167). -/
def State.deferredReply (r : Result) (data : List Byte) (s : State) : State :=
  match s.ports.outstanding with
  | none => s
  | some kind =>
    { s with ports := { s.ports.place .service (replyFrame kind r data) with outstanding := none } }

/-! ### The incident recorder -/

/-- A trigger is taken by the recorder (R125). -/
def State.arrive (t : Trigger) (s : State) : State :=
  { s with
    recorder := s.recorder.arrive s.cfg s.time s.monitor.distance s.store.sequence s.draws t
    draws := s.draws + (if s.recorder.arrivalDraws then 1 else 0) }

/-- The values a sample event reads of their owners (R119). -/
def State.sampleInputs (s : State) : SampleInputs where
  reference := s.monitor.reported
  ledger := s.ledger
  measured := ⟨s.loops.a.measured, s.loops.b.measured⟩
  pipe := s.watch.pressure
  slide := s.slide.axles
  sand := s.slide.sand.output ≠ .off
  links := ⟨s.ports.link.cab.state, s.ports.link.traction.state, s.ports.link.supervision.state⟩

/-! ### The NV store controller -/

/-- The recorder places a SEAL for its oldest AWAITING_SEAL buffer when its waiting position is empty (R130). -/
def State.placeSeal (s : State) : State :=
  match s.nv.recorderWait with
  | some _ => s
  | none =>
    match oldestAwaiting s.recorder.buffers with
    | none => s
    | some b => { s with nv := { s.nv with recorderWait := some b } }

/-- Some entry of a buffer's trigger list is EMERGENCY_ACCEPTED (R131). -/
def Buffer.calledEmergency (b : Buffer) : Bool := b.entries.any fun e => isEmergency e.trigger

/-- A SEAL is granted: its slot is chosen and auto-lock is decided (R131). -/
def State.grantSeal (i : Fin 2) (s : State) : State :=
  match chooseSlot s.recorder.directory with
  | none => s
  | some slot =>
    let b := s.recorder.buffers[i]
    let room : Bool := lockedCount s.recorder.directory < maxLocked
    let sealing := { b with state := .sealing, autoLockDenied := b.autoLockDenied || (b.calledEmergency && !room) }
    { s with
      nv := { s.nv with inFlight := some (.sealing i slot (b.calledEmergency && room) false), recorderWait := none }
      recorder := (s.recorder.withBuffer i sealing).withEntry slot ⟨.sealing, false, b.sequence, b.firstKind⟩ }

/-- A service operation that writes nothing at its grant completes there (R139, R142, R167). -/
def State.grantedNothing (r : Result) (s : State) : State :=
  State.deferredReply r [] { s with nv := { s.nv with serviceWait := none } }

/-- A service operation is granted (R139, R140, R142, R186). -/
def State.grantService (op : ServiceOp) (s : State) : State :=
  let granted := { s with nv := { s.nv with inFlight := some (.service op false), serviceWait := none } }
  match op with
  | .lock slot noted =>
    if (s.recorder.directory[slot]).sequence ≠ noted then s.grantedNothing .changed
    else if maxLocked ≤ lockedCount s.recorder.directory then s.grantedNothing .lockLimit
    else granted
  | .erase slot noted =>
    if (s.recorder.directory[slot]).sequence ≠ noted then s.grantedNothing .changed else granted
  | .configStore _ | .assignStore _ _ | .unlock _ => granted

/-- The controller grants one waiting operation, a SEAL first, while none is in flight and no warm restart is pending (R186, R189). -/
def State.grant (s : State) : State :=
  if s.restart.isSome || s.nv.inFlight.isSome then s
  else
    match s.nv.recorderWait with
    | some b => s.grantSeal b
    | none =>
      match s.nv.serviceWait with
      | some op => s.grantService op
      | none => s

/-- The recorder places its SEAL, the controller grants, and the recorder places the next (R130, R186). -/
def State.nvTurn (s : State) : State := ((s.placeSeal).grant).placeSeal

/-- A taken request places a service operation, and the port owes it a deferred reply (R167). -/
def State.placeService (kind : Byte) (op : ServiceOp) (s : State) : State :=
  State.nvTurn
    { s with
      nv := { s.nv with serviceWait := some op }
      ports := { s.ports with outstanding := some kind } }

/-- One slot of the array is written. -/
def State.writeSlot (i : Fin 12) (x : NvSlot) (s : State) : State := { s with array := s.array.withSlot i x }

/-- A directory entry changes. -/
def State.withEntry (i : Fin 12) (e : DirEntry) (s : State) : State :=
  { s with recorder := s.recorder.withEntry i e }

/-- The image is written as a whole by a store that completes (R182, R183). -/
def State.writeImage (s : State) : State :=
  { s with array := { s.array with
      image := ⟨s.store.live, s.matrix.table, s.store.sequence, s.store.state, true⟩ } }

/-! ### Resets -/

/-- A delivery that a warm restart keeps: a trigger on its way to the recorder (log 4). -/
def isTriggerDelivery : Instr → Bool
  | .triggerArrival _ => true
  | _ => false

/-- What every reset ends with: the drivers' health is taken (R158), the arbiter raises S7 and perhaps LINE (R29, R30), the ledger takes the record and, under an emergency, the notice (R33), and the recorder places its seal again (R145). -/
def State.concludeReset (s : State) : State :=
  let marked := { s.deliver s.matrix.alignTriggers with matrix := s.matrix.alignMarks }
  let raised := marked.arbiterEvent .takeReset
  let copied := { raised with ledger := .afterReset raised.arbiter.record }
  let noticed :=
    if copied.arbiter.nonIdle .s8 then
      State.emergencyOrder { copied with deliveries := copied.deliveries.erase .emergencyNotice }
    else copied
  noticed.nvTurn

/-- A warm restart takes effect (R189, R190): every block takes its warm restart state. -/
def State.warmRestart (cause : ResetCause) (s : State) : State :=
  State.concludeReset
    { s with
      deliveries := s.deliveries.filter isTriggerDelivery
      timers := .started s.time
      arbiter := .cleared s.emergencyLine (s.store.state = .valid)
      loops := ⟨.afterReset, .afterReset⟩
      watch := .afterReset
      monitor := .afterReset (tachChannels s.matrix.table) s.monitor.accumulator s.monitor.distance
      slide := .afterReset s.cfg
      recorder := s.recorder.afterWarm cause
      matrix := s.matrix.afterWarm
      ports := .afterReset
      nv := .empty
      restart := none
      lastReset := cause }

/-- A pending warm restart takes effect once no NV operation is in flight and every OK reply to a RESTART has been transmitted (R189). -/
def State.restartIfDue (s : State) : State :=
  match s.restart with
  | none => s
  | some cause => if s.nv.inFlight.isNone && !s.ports.restartOwed then s.warmRestart cause else s

/-- A warm restart is called; a call that finds one pending joins it (R189). -/
def State.callRestart (cause : ResetCause) (s : State) : State :=
  State.restartIfDue { s with restart := some (s.restart.getD cause) }

/-- What follows the completion of an NV operation: the next grant, or the warm restart that waited (R186, R189). -/
def State.afterCompletion (s : State) : State :=
  State.restartIfDue (State.nvTurn { s with nv := { s.nv with inFlight := none } })

/-- The part without power: every volatile record is lost, and the array, the pins and the queue of commands are not (R187, log 7). -/
def State.dark (s : State) : State :=
  { State.reset with
    pending := s.pending
    powered := false
    emergencyLine := s.emergencyLine
    restartLine := s.restartLine
    matrix := { Matrix.unpowered with health := s.matrix.health, loops := s.matrix.loops }
    array := s.array
    draws := s.draws }

/-- A power-on reset (R184): the image is read and judged, the slots are scanned, and every block takes its power-on state. -/
def State.powerOn (s : State) : State :=
  let store := Store.afterPowerOn s.array.image
  let table := tableAfterPowerOn s.array.image
  State.concludeReset
    { s with
      deliveries := []
      powered := true
      time := 0
      timers := .started 0
      arbiter := .cleared s.emergencyLine (store.state = .valid)
      loops := ⟨.afterReset, .afterReset⟩
      watch := .afterReset
      monitor := .afterReset (tachChannels table) 0 0
      slide := .afterReset store.live
      recorder := .afterPowerOn s.draws s.array.slots
      matrix := s.matrix.afterPowerOn table
      ports := .afterReset
      store := store
      nv := .empty
      restart := none
      lastReset := .powerOn
      draws := s.draws + 1 }

/-- What power loss leaves in the array of the operation in flight (R132, R139, R140, R142, R183, R187). -/
def State.interrupt (x : NvProgress) (s : State) : State :=
  match s.nv.inFlight with
  | none => s
  | some (.sealing i slot autoLock stateWritten) =>
    let b := s.recorder.buffers[i]
    if stateWritten then
      if autoLock && x.headerWritten then s.writeSlot slot (sealedSlot b .sealed true) else s
    else if x.headerWritten then
      let crc := x.crcWritten && b.body.length ≤ x.bodyBytes
      { s.writeSlot slot (interruptedSlot s.draws b x.bodyBytes crc) with draws := s.draws + 1 }
    else s
  | some (.service op headerWritten) =>
    match op with
    | .configStore _ | .assignStore _ _ =>
      { s with array := { s.array with image := { s.array.image with crcOk := false } } }
    | .lock slot _ => if x.headerWritten then s.writeSlot slot ((s.array.slots[slot]).withLock true) else s
    | .unlock slot => if x.headerWritten then s.writeSlot slot ((s.array.slots[slot]).withLock false) else s
    | .erase slot _ =>
      let old := s.array.slots[slot]
      if headerWritten then
        { s.writeSlot slot ⟨old.header, clearedBody s.draws x.bodyBytes old.body⟩ with draws := s.draws + 1 }
      else if x.headerWritten then
        { s.writeSlot slot ⟨erasedHeader s.draws old.header, clearedBody s.draws x.bodyBytes old.body⟩ with
          draws := s.draws + 1 }
      else s

end Sys2Proof.Machine
end

