-- ==== Sys2Proof/Machine/ArbiterEvents.lean ====
section
/-! DEFINITION. The events that reach the demand arbiter otherwise than by a frame: the emergency hold, the EMERGENCY line, the brake pipe condition, transducer health and standstill. -/

namespace Sys2Proof.Machine

/-- The hold expiry (R18, R19): nothing is evaluated before the hold has passed. -/
def State.holdExpiry (s : State) : State := s.arbiterEvent (.evaluateRaisers s.cfg s.time)

/-- EMERGENCY_HOLD_EXPIRY (R18). -/
def execEmergencyHoldExpiry (s : State) : Host.Outcome State Fault Refusal := powered .holdExpiry s

/-- The arbiter takes the EMERGENCY line's assertion (R17). -/
def State.lineAsserted (s : State) : State := s.arbiterEvent .takeLineAsserted

/-- EMERGENCY_LINE_ASSERTED (R17). The pin changes whether or not the part has power (log 6). -/
def execEmergencyLineAsserted (s : State) : Host.Outcome State Fault Refusal :=
  powered .lineAsserted { s with emergencyLine := true }

/-- The arbiter takes the EMERGENCY line's release (R19). -/
def State.lineReleased (s : State) : State := s.arbiterEvent (.takeLineReleased s.cfg s.time)

/-- EMERGENCY_LINE_RELEASED (R19). -/
def execEmergencyLineReleased (s : State) : Host.Outcome State Fault Refusal :=
  powered .lineReleased { s with emergencyLine := false }

/-- BRAKE_PIPE_CONDITION_BEGUN (R17). -/
def execBrakePipeConditionBegun (s : State) : Host.Outcome State Fault Refusal :=
  delivered .brakePipeConditionBegun (.arbiterEvent .takePipeBegun) s

/-- The arbiter takes the report that the brake pipe condition has cleared (R19). -/
def State.pipeCleared (s : State) : State := s.arbiterEvent (.takePipeCleared s.cfg s.time)

/-- BRAKE_PIPE_CONDITION_CLEARED (R19). -/
def execBrakePipeConditionCleared (s : State) : Host.Outcome State Fault Refusal :=
  delivered .brakePipeConditionCleared .pipeCleared s

/-- TRANSDUCER_HEALTH_CHANGE (R26). -/
def execTransducerHealthChange (which : Transducer) (healthy : Bool) (s : State) : Host.Outcome State Fault Refusal :=
  delivered (.transducerHealthChange which healthy) (.arbiterEvent (.takeHealth which healthy)) s

/-- The arbiter takes a change of the standstill flag (R22). -/
def State.standstillChange (set : Bool) (s : State) : State := s.arbiterEvent (.takeStandstill s.cfg s.time set)

/-- STANDSTILL_CHANGE (R22). -/
def execStandstillChange (set : Bool) (s : State) : Host.Outcome State Fault Refusal :=
  delivered (.standstillChange set) (.standstillChange set) s

end Sys2Proof.Machine
end

