-- ==== Sys2Proof/Machine/BrakeEvents.lean ====
section
/-! DEFINITION. The events of the blend engine, the cylinder pressure controller, the axle monitor and the slide controller. -/

namespace Sys2Proof.Machine

/-! ### The blend engine -/

/-- A clip request is taken (R52). DEDUCED: where two axles' limits have fallen before the first of their requests is taken, the first CLIP order lowers both commands by the guard of R50, and the second request then finds its command at its limit and sends no order (log 36). -/
def State.clip (i : Axle) (s : State) : State :=
  let limit := (s.slide.axles.get i).lim
  if limit < s.ledger.cmd.get i then
    State.order .clip { s with ledger := { s.ledger with cmd := s.ledger.cmd.set i limit } }
  else s

/-- CLIP_REQUEST (R52). -/
def execClipRequest (i : Axle) (s : State) : Host.Outcome State Fault Refusal :=
  delivered (.clipRequest i) (.clip i) s

/-- EMERGENCY_NOTICE (R53). -/
def execEmergencyNotice (s : State) : Host.Outcome State Fault Refusal :=
  delivered .emergencyNotice .emergencyOrder s

/-- What the blend engine reads of its owners (R31). -/
def State.blendInputs (s : State) : BlendInputs where
  record := s.arbiter.record
  tractionFresh := s.ports.link.traction.state = .fresh
  capability := s.ports.capability
  limits := s.limits
  measured := ⟨s.loops.a.measured, s.loops.b.measured⟩
  healthy := ⟨s.loops.a.healthy, s.loops.b.healthy⟩

/-- One blend period (R31, R48, R51). -/
def State.blendPeriod (s : State) : State :=
  let l := s.ledger.allocate s.cfg s.blendInputs
  let allocated := { s with ledger := l, timers := { s.timers with blend := s.time } }
  (allocated.deliver ((deficitTrigger s.ledger l).map .triggerArrival)).order .period

/-- BLEND_PERIOD (R31). -/
def execBlendPeriod (s : State) : Host.Outcome State Fault Refusal := powered .blendPeriod s

/-! ### The cylinder pressure controller -/

/-- The functions of a truck: its transducer, its apply valve and its release valve (R57). -/
def truckFunctions : Truck → ChanFn × ChanFn × ChanFn
  | .a => (.bcA, .applyA, .releaseA)
  | .b => (.bcB, .applyB, .releaseB)

/-- The valve functions of a truck after a sample (R60): the one that goes off is switched first, and a kept state switches nothing. -/
def driveValves (apply release : ChanFn) (before after : Valve) (fs : FnStates) : FnStates :=
  if before = after then fs
  else
    match after with
    | .apply => (fs.switch release false).switch apply true
    | .release => (fs.switch apply false).switch release true
    | .lap => (fs.switch apply false).switch release false

/-- One sample of a truck loop (R58). -/
def State.truckSample (t : Truck) (loops : LoopCurrents) (s : State) : State :=
  let m := { s.matrix with loops := loops }
  let fns := truckFunctions t
  let before := s.loops.get t
  let after := before.sample s.cfg (m.conversion fns.1) (s.ledger.pressure.get t) (s.slide.trucks.get t).correction
  State.deliver
    { s with
      loops := s.loops.set t after
      matrix := { m with functions := driveValves fns.2.1 fns.2.2 before.valve after.valve m.functions }
      timers := { s.timers with truck := s.timers.truck.set t s.time } }
    (truckDeliveries t before after)

/-- TRUCK_SAMPLE (R58). -/
def execTruckSample (t : Truck) (loops : LoopCurrents) (s : State) : Host.Outcome State Fault Refusal :=
  powered (.truckSample t loops) s

/-- One sample of the brake pipe watch (R68). -/
def State.pipeSample (loops : LoopCurrents) (s : State) : State :=
  let m := { s.matrix with loops := loops }
  let after := s.watch.sample s.cfg (m.conversion .pipe)
  State.deliver
    { s with watch := after, matrix := m, timers := { s.timers with pipe := s.time } }
    (pipeDeliveries s.watch after)

/-- PIPE_SAMPLE (R68). -/
def execPipeSample (loops : LoopCurrents) (s : State) : Host.Outcome State Fault Refusal :=
  powered (.pipeSample loops) s

/-! ### The axle monitor -/

/-- The health and the closed count of the pulse channel that holds an axle's TACH function (R77). A table that R147 allows holds each on one channel. -/
def tachReading (m : Matrix) (i : Axle) : Bool × Nat :=
  match tachChannel m.table i with
  | some c => ((m.pulses[c]).healthy, (m.pulses[c]).latest)
  | none => (false, 0)

/-- The six axle records at a window expiry (R77). -/
def windowAxles (cfg : ConfigSet) (m : Matrix) (axles : PerAxle AxleRecord) : PerAxle AxleRecord :=
  .ofFn fun i =>
    let r := tachReading m i
    (axles.get i).window (cfg.wheelDiameter.get i) cfg.tachPpr (tachChannel m.table i) r.1 r.2

/-- One window of the axle monitor (R77, R152). -/
def State.axleWindow (pulses : Vector PulseInput 8) (s : State) : State :=
  let m := { s.matrix with pulses := closeCounts pulses s.matrix.pulses }
  let after := Monitor.conclude s.cfg { s.monitor with axles := windowAxles s.cfg m s.monitor.axles }
  State.deliver
    { s with matrix := m, monitor := after, timers := { s.timers with window := s.time } }
    (windowDeliveries s.monitor after)

/-- AXLE_WINDOW (R77). -/
def execAxleWindow (pulses : Vector PulseInput 8) (s : State) : Host.Outcome State Fault Refusal :=
  powered (.axleWindow pulses) s

/-! ### The slide controller -/

/-- The sand functions after a change of the output (R113): the one that goes off is switched first. -/
def driveSand (before after : SandOutput) (fs : FnStates) : FnStates :=
  if before = after then fs
  else
    match after with
    | .off => (fs.switch .sandFwd false).switch .sandRev false
    | .fwd => (fs.switch .sandRev false).switch .sandFwd true
    | .rev => (fs.switch .sandFwd false).switch .sandRev true

/-- One slide window (R92). -/
def State.slideWindow (c : WindowCompletion) (s : State) : State :=
  let after := s.slide.window s.cfg s.arbiter.record s.ledger c
  State.deliver
    { s with
      slide := after
      matrix := { s.matrix with
        functions := driveSand s.slide.sand.output after.sand.output s.matrix.functions } }
    (slideDeliveries s.ledger.cmd s.slide.axles after.axles)

/-- SLIDE_WINDOW (R92). -/
def execSlideWindow (c : WindowCompletion) (s : State) : Host.Outcome State Fault Refusal :=
  delivered (.slideWindow c) (.slideWindow c) s

/-- The slide controller takes S8's leaving IDLE (R110). -/
def State.slideEmergency (s : State) : State := { s with slide := s.slide.onEmergency s.cfg }

/-- S8_LEAVES_IDLE (R110). -/
def execS8LeavesIdle (s : State) : Host.Outcome State Fault Refusal := delivered .s8LeavesIdle .slideEmergency s

end Sys2Proof.Machine
end

