-- ==== Sys2Proof/Machine/Flags.lean ====
section
/-! DEFINITION. The flag bytes and the reply data that the part builds of its own state: STATUS, the ledger summary, IDENTIFY and READ CHANNEL (sections 8.9 and 9.4). -/

namespace Sys2Proof.Machine

/-- A source in a byte field; FF hexadecimal means none (R178). -/
def sourceByte : Option Source → Byte
  | none => 0xFF
  | some g => byteOf g.number

/-- The six stack places, bottom first; those above the top hold FF (R178). -/
def stackBytes (stack : List Source) : List Byte :=
  ((stack.map fun (g : Source) => byteOf g.number) ++ List.replicate 6 0xFF).take 6

/-- The demand flags: byte 26 of the ledger summary and byte 14 of the STATUS data (section 8.9). -/
def demandFlags (d : DemandRecord) (withdrawn deficit standstill degraded : Bool) : Byte :=
  byteOf (bitFlag d.bail 7 + bitFlag d.electricPermitted 6 + bitFlag d.emergency 5
    + bitFlag (d.profile = .emergency) 4 + bitFlag withdrawn 3 + bitFlag deficit 2
    + bitFlag standstill 1 + bitFlag degraded 0)

/-- The raisers and the cab gate: byte 16 of the STATUS data (section 8.9). -/
def raiserFlags (a : Arbiter) : Byte :=
  byteOf (bitFlag a.emergencyRaisers.cab 7 + bitFlag a.emergencyRaisers.supervision 6
    + bitFlag a.emergencyRaisers.line 5 + bitFlag a.emergencyRaisers.pipe 4 + bitFlag a.gateOpen 3
    + bitFlag a.lossRaisers.cabLost 1 + bitFlag a.lossRaisers.supervisionLost 0)

/-- The three link states of the master ports. -/
def Ports.linkStates (ps : Ports) : PerMaster LinkState :=
  ⟨ps.link.cab.state, ps.link.traction.state, ps.link.supervision.state⟩

/-- The STATUS data of a CAB DEMAND reply; `clamped` is the INPUT mark of the request (R177, section 8.9). -/
def statusData (clamped : Bool) (s : State) : List Byte :=
  let r := s.arbiter.record
  [byteOf r.authority, sourceByte r.governor] ++ stackBytes s.arbiter.stack
  ++ two r.blended ++ two r.airFloor ++ two r.electricOnly
  ++ [demandFlags r s.ledger.withdrawn s.ledger.deficitFlag s.monitor.standstill s.monitor.degraded,
      byteOf (bitFlag clamped 3 + clampBits s.ledger.clamps),
      raiserFlags s.arbiter,
      byteOf (linkBits s.ports.linkStates)]
  ++ two s.monitor.reported

/-- The code of a loop's or the watch's mode (section 8.9). -/
def LoopMode.code : LoopMode → Nat
  | .starting => 0 | .normal => 1 | .failsafe => 2

/-- The code of a valve state (section 8.9). -/
def Valve.code : Valve → Nat
  | .lap => 0 | .apply => 1 | .release => 2

/-- The code of a truck's correction (section 8.9). -/
def Correction.code : Correction → Nat
  | .none => 0 | .release => 1 | .hold => 2

/-- The code of the sand output (section 8.9). -/
def SandOutput.code : SandOutput → Nat
  | .off => 0 | .fwd => 1 | .rev => 2

/-- The code of a buffer's state (section 8.9). -/
def BufferState.code : BufferState → Nat
  | .free => 0 | .capturing => 1 | .awaitingSeal => 2 | .sealing => 3

/-- The slide word of an axle: slide state, tach FAULTED, creep (section 8.9). -/
def slideWord (r : AxleSlide) (t : TachState) : Nat :=
  r.state.code * 8192 + bitFlag (t = .faulted) 12 + r.creep

/-- The twelve bytes of one axle in the ledger summary (section 8.9). -/
def axleSummary (s : State) (i : Axle) : List Byte :=
  let r := s.slide.axles.get i
  let m := s.monitor.axles.get i
  two (s.ledger.cmd.get i) ++ two (s.ledger.tgt.get i) ++ two (s.ledger.ach.get i) ++ two r.lim
  ++ two m.speed ++ two (slideWord r m.tach)

/-- The loop byte of one truck (section 8.9). -/
def loopByte (l : TruckLoop) (r : TruckSlide) : Byte :=
  byteOf (l.mode.code * 64 + l.valve.code * 16 + bitFlag l.responseFault 3 + r.correction.code * 2
    + bitFlag r.exhausted 0)

/-- The nine bytes of one truck in the ledger summary (section 8.9). -/
def truckSummary (s : State) (t : Truck) : List Byte :=
  let l := s.loops.get t
  let r := s.slide.trucks.get t
  two (s.ledger.airForce.get t) ++ two (s.ledger.pressure.get t) ++ two l.measured ++ two r.release
  ++ [loopByte l r]

/-- The stamp of the governor in the demand table; 0 where none governs (section 8.9). -/
def governorStamp (a : Arbiter) : Nat :=
  match a.governor with
  | none => 0
  | some g => (a.entries.get g).stamp

/-- The ledger summary of a LEDGER QUERY (R175, section 8.9). -/
def ledgerSummary (s : State) : List Byte :=
  let d := s.ledger.demand
  [byteOf d.authority, sourceByte d.governor] ++ four (governorStamp s.arbiter) ++ stackBytes s.arbiter.stack
  ++ two d.blended ++ two d.airFloor ++ two d.electricOnly ++ two d.emergencyEffort
  ++ two s.ledger.unmet ++ two s.ledger.unserved ++ two s.ledger.deficit
  ++ [demandFlags d s.ledger.withdrawn s.ledger.deficitFlag s.monitor.standstill s.monitor.degraded,
      byteOf (s.ledger.lastReason.code * 32 + clampBits s.ledger.clamps),
      byteOf (linkBits s.ports.linkStates)]
  ++ two s.monitor.reported
  ++ Axle.all.flatMap (axleSummary s)
  ++ truckSummary s .a ++ truckSummary s .b
  ++ two s.watch.pressure
  ++ [byteOf (bitFlag s.watch.present 7 + bitFlag s.watch.fault 6 + s.watch.mode.code * 16
        + bitFlag s.slide.sand.request 3 + s.slide.sand.output.code),
      byteOf ((s.recorder.buffers[0]).state.code * 64 + (s.recorder.buffers[1]).state.code * 16
        + lockedCount s.recorder.directory)]

/-- The code of a configuration state (R185). -/
def ConfigState.code : ConfigState → Nat
  | .valid => 0 | .defaulted => 1

/-- The data of an IDENTIFY: "JF-640", revision "C", configuration state and sequence, last reset cause, time base, distance (R185). -/
def identifyData (s : State) : List Byte :=
  [0x4A, 0x46, 0x2D, 0x36, 0x34, 0x30, 0x43, byteOf s.store.state.code]
  ++ bytes32 s.store.sequence ++ [byteOf s.lastReset.code] ++ four s.time ++ bytes32 s.monitor.distance

/-- The code of a driver's health (section 8.9). -/
def driverHealthCode : DriverHealth → Nat
  | .ok => 0 | .openLoad => 1 | .shortLoad => 2

/-- The data of a READ CHANNEL for a channel (R154, section 8.9). -/
def channelData (m : Matrix) (ch : Fin 22) : List Byte :=
  let fn := byteOf (m.table[ch]).code
  match driverOf ch, pulseOf ch, analogOf ch with
  | some d, _, _ =>
    [0, fn, byteOf (bitFlag (m.driven d) 7 + bitFlag m.marks[d] 6 + driverHealthCode m.health[d])]
  | none, some p, _ =>
    let x := m.pulses[p]
    [1, fn, byteOf x.latest] ++ bytes16 x.total ++ [byteOf (bitFlag (!x.healthy) 0)]
  | none, none, some a =>
    let cv := convert m.loops[a]
    [2, fn] ++ two cv.value ++ [byteOf (bitFlag (!cv.healthy) 0)]
  | none, none, none => []

end Sys2Proof.Machine
end

