-- ==== Sys2Proof/Machine/CabPort.lean ====
section
/-! DEFINITION. The requests of the cab port, and the two that several ports accept: CAB DEMAND, RELEASE EMERGENCY and LEDGER QUERY. -/

namespace Sys2Proof.Machine

/-- Whether the clamp of R169 changes one of the three handle efforts. -/
def handlesClamped (dynamic independent automatic : Word16) : Bool :=
  effortClamped dynamic || effortClamped independent || effortClamped automatic

/-- A CAB DEMAND taken at step 7 of R161: the link, the demand, the clamp notice, and the reply (R164, R9). -/
def State.actCabDemand (dynamic independent automatic : Word16) (flags : Byte) (s : State) : State :=
  let linked := s.refreshLink .cab
  let applied := linked.arbiterEvent (.takeCabDemand dynamic independent automatic flags)
  let clamped := handlesClamped dynamic independent automatic
  let noticed := applied.clampNotice clamped
  noticed.reply .cab kindCabDemand .ok (statusData clamped noticed)

/-- A received CAB DEMAND (R9, R161). -/
def State.cabDemand (dynamic independent automatic : Word16) (flags : Byte) (s : State) : State :=
  s.takeFrame .cab kindCabDemand 7 (.actCabDemand dynamic independent automatic flags)

/-- CAB_DEMAND (R9). -/
def execCabDemand (dynamic independent automatic : Word16) (flags : Byte) (s : State) :
    Host.Outcome State Fault Refusal :=
  powered (.cabDemand dynamic independent automatic flags) s

/-- The raiser that a port may release (R21). -/
def portRaiser : PortId → EmergencyRaiser
  | .supervision => .supervision
  | .cab | .traction | .service => .cab

/-- A RELEASE EMERGENCY taken (R21). -/
def State.actReleaseEmergency (p : PortId) (s : State) : State :=
  match s.arbiter.releaseEmergencyResult s.cfg s.time (portRaiser p) with
  | .ok => (s.arbiterEvent (.takeReleaseEmergency s.cfg s.time (portRaiser p))).reply p kindReleaseEmergency .ok []
  | r => s.reply p kindReleaseEmergency r []

/-- A received RELEASE EMERGENCY (R21, R161). -/
def State.releaseEmergency (p : PortId) (s : State) : State :=
  s.takeFrame p kindReleaseEmergency 0 (.actReleaseEmergency p)

/-- RELEASE_EMERGENCY (R21). -/
def execReleaseEmergency (p : PortId) (s : State) : Host.Outcome State Fault Refusal :=
  powered (.releaseEmergency p) s

/-- A LEDGER QUERY taken (R175). -/
def State.actLedgerQuery (p : PortId) (s : State) : State := s.reply p kindLedgerQuery .ok (ledgerSummary s)

/-- A received LEDGER QUERY (R166, R161). -/
def State.ledgerQuery (p : PortId) (s : State) : State := s.takeFrame p kindLedgerQuery 0 (.actLedgerQuery p)

/-- LEDGER_QUERY (R175). -/
def execLedgerQuery (p : PortId) (s : State) : Host.Outcome State Fault Refusal := powered (.ledgerQuery p) s

end Sys2Proof.Machine
end

