-- ==== Sys2Proof/Machine/ServiceChannels.lean ====
section
/-! DEFINITION. The service requests of the channel matrix: READ CHANNEL, ASSIGN CHANNEL and DRIVE CHANNEL. -/

namespace Sys2Proof.Machine

/-- The loop currents at a moment: what the analog channels convert from then on (R153). -/
def State.withLoops (loops : LoopCurrents) (s : State) : State := { s with matrix := { s.matrix with loops := loops } }

/-- A READ CHANNEL taken (R154). -/
def State.actReadChannel (channel : Byte) (s : State) : State :=
  match channelNumber channel with
  | none => s.reply .service kindReadChannel .range []
  | some ch => s.reply .service kindReadChannel .ok (channelData s.matrix ch)

/-- A received READ CHANNEL, at a moment at which the loops carry `loops` (R153, R154, R161). -/
def State.readChannel (channel : Byte) (loops : LoopCurrents) (s : State) : State :=
  (s.withLoops loops).takeFrame .service kindReadChannel 1 (.actReadChannel channel)

/-- READ_CHANNEL (R154). -/
def execReadChannel (channel : Byte) (loops : LoopCurrents) (s : State) : Host.Outcome State Fault Refusal :=
  powered (.readChannel channel loops) s

/-- An ASSIGN CHANNEL taken (R156). -/
def State.actAssignChannel (channel function : Byte) (s : State) : State :=
  match judgeAssign s.matrix.table s.monitor.standstill channel function with
  | .atOnce r => s.reply .service kindAssignChannel r []
  | .store ch f => s.placeService kindAssignChannel (.assignStore ch f)

/-- A received ASSIGN CHANNEL (R156, R161). -/
def State.assignChannel (channel function : Byte) (s : State) : State :=
  s.takeFrame .service kindAssignChannel 2 (.actAssignChannel channel function)

/-- ASSIGN_CHANNEL (R156). -/
def execAssignChannel (channel function : Byte) (s : State) : Host.Outcome State Fault Refusal :=
  powered (.assignChannel channel function) s

/-- A driver channel's general output state replaced (R155). -/
def State.withGeneral (d : Fin 8) (on : Bool) (s : State) : State :=
  { s with matrix := { s.matrix with generalOut := s.matrix.generalOut.set d on } }

/-- A DRIVE CHANNEL taken (R155). -/
def State.actDriveChannel (channel state : Byte) (s : State) : State :=
  match judgeDrive s.matrix.table channel state with
  | (r, none) => s.reply .service kindDriveChannel r []
  | (r, some d) => (s.withGeneral d (state = 1)).reply .service kindDriveChannel r []

/-- A received DRIVE CHANNEL (R155, R161). -/
def State.driveChannel (channel state : Byte) (s : State) : State :=
  s.takeFrame .service kindDriveChannel 2 (.actDriveChannel channel state)

/-- DRIVE_CHANNEL (R155). -/
def execDriveChannel (channel state : Byte) (s : State) : Host.Outcome State Fault Refusal :=
  powered (.driveChannel channel state) s

end Sys2Proof.Machine
end

