-- ==== Sys2Proof/Machine/ServiceConfig.lean ====
section
/-! DEFINITION. The service requests of the configuration store, and RESTART: IDENTIFY, READ CONFIG, WRITE CONFIG, CONFIRM CONFIG and RESTART. -/

namespace Sys2Proof.Machine

/-- An IDENTIFY taken (R185). -/
def State.actIdentify (s : State) : State := s.reply .service kindIdentify .ok (identifyData s)

/-- A received IDENTIFY (R185, R161). -/
def State.identify (s : State) : State := s.takeFrame .service kindIdentify 0 .actIdentify

/-- IDENTIFY (R185). -/
def execIdentify (s : State) : Host.Outcome State Fault Refusal := powered .identify s

/-- A READ CONFIG taken (R181). -/
def State.actReadConfig (code : Byte) (s : State) : State :=
  match paramRow code with
  | none => s.reply .service kindReadConfig .range []
  | some row => s.reply .service kindReadConfig .ok (four (s.cfg.get row.param))

/-- A received READ CONFIG (R181, R161). -/
def State.readConfig (code : Byte) (s : State) : State := s.takeFrame .service kindReadConfig 1 (.actReadConfig code)

/-- READ_CONFIG (R181). -/
def execReadConfig (code : Byte) (s : State) : Host.Outcome State Fault Refusal := powered (.readConfig code) s

/-- A WRITE CONFIG taken (R182). -/
def State.actWriteConfig (code : Byte) (value : Word32) (s : State) : State :=
  match judgeWrite s.cfg s.monitor.standstill code value with
  | .error r => s.reply .service kindWriteConfig r []
  | .ok w => s.placeService kindWriteConfig (.configStore (some w))

/-- A received WRITE CONFIG (R182, R161). -/
def State.writeConfig (code : Byte) (value : Word32) (s : State) : State :=
  s.takeFrame .service kindWriteConfig 5 (.actWriteConfig code value)

/-- WRITE_CONFIG (R182). -/
def execWriteConfig (code : Byte) (value : Word32) (s : State) : Host.Outcome State Fault Refusal :=
  powered (.writeConfig code value) s

/-- A CONFIRM CONFIG taken (R182). -/
def State.actConfirmConfig (s : State) : State :=
  if s.monitor.standstill then s.placeService kindConfirmConfig (.configStore none)
  else s.reply .service kindConfirmConfig .notStandstill []

/-- A received CONFIRM CONFIG (R182, R161). -/
def State.confirmConfig (s : State) : State := s.takeFrame .service kindConfirmConfig 0 .actConfirmConfig

/-- CONFIRM_CONFIG (R182). -/
def execConfirmConfig (s : State) : Host.Outcome State Fault Refusal := powered .confirmConfig s

/-- A RESTART request taken (R188). -/
def State.actRestart (s : State) : State :=
  if s.monitor.standstill then (s.reply .service kindRestart .ok []).callRestart .serviceRestart
  else s.reply .service kindRestart .notStandstill []

/-- A received RESTART (R188, R161). -/
def State.restartRequest (s : State) : State := s.takeFrame .service kindRestart 0 .actRestart

/-- RESTART (R188). -/
def execRestart (s : State) : Host.Outcome State Fault Refusal := powered .restartRequest s

end Sys2Proof.Machine
end

