-- ==== Sys2Proof/Machine/ServiceIncidents.lean ====
section
/-! DEFINITION. The service requests of the incident recorder: LIST, READ, LOCK, UNLOCK and ERASE INCIDENT, and SET MATCH. -/

namespace Sys2Proof.Machine

/-- A LIST INCIDENTS taken (R136). -/
def State.actListIncidents (s : State) : State := s.reply .service kindListIncidents .ok (listData s.recorder)

/-- A received LIST INCIDENTS (R136, R161). -/
def State.listIncidents (s : State) : State := s.takeFrame .service kindListIncidents 0 .actListIncidents

/-- LIST_INCIDENTS (R136). -/
def execListIncidents (s : State) : Host.Outcome State Fault Refusal := powered .listIncidents s

/-- A READ INCIDENT taken (R137). -/
def State.actReadIncident (slot : Byte) (expected : Word32) (part : Byte) (s : State) : State :=
  let r := Sys2Proof.Machine.readIncident s.recorder s.array.slots slot expected part
  State.reply .service kindReadIncident r.1 r.2 { s with recorder := s.recorder.afterRead slot part r.1 }

/-- A received READ INCIDENT (R137, R161). -/
def State.readIncident (slot : Byte) (expected : Word32) (part : Byte) (s : State) : State :=
  s.takeFrame .service kindReadIncident 6 (.actReadIncident slot expected part)

/-- READ_INCIDENT (R137). -/
def execReadIncident (slot : Byte) (expected : Word32) (part : Byte) (s : State) : Host.Outcome State Fault Refusal :=
  powered (.readIncident slot expected part) s

/-- The judgement of a slot request (R138, R140, R141): an answer at once with its data, or the operation that is placed. -/
inductive SlotVerdict where
  | atOnce (r : Result) (data : List Byte)
  | place (op : ServiceOp)
  deriving DecidableEq, Repr

/-- The rows of R138, in their order. -/
def judgeLock (d : Vector DirEntry 12) (slot : Byte) : SlotVerdict :=
  match slotNumber slot with
  | none => .atOnce .range []
  | some i =>
    if (d[i]).state ≠ .sealed then .atOnce .notSealed []
    else if (d[i]).lock then .atOnce .ok [1]
    else if maxLocked ≤ lockedCount d then .atOnce .lockLimit []
    else .place (.lock i (d[i]).sequence)

/-- The rows of R140, in their order. -/
def judgeUnlock (d : Vector DirEntry 12) (standstill : Bool) (slot : Byte) : SlotVerdict :=
  match slotNumber slot with
  | none => .atOnce .range []
  | some i =>
    if !standstill then .atOnce .notStandstill []
    else if !(d[i]).lock then .atOnce .ok []
    else .place (.unlock i)

/-- The rows of R141, in their order. -/
def judgeErase (d : Vector DirEntry 12) (standstill : Bool) (slot : Byte) : SlotVerdict :=
  match slotNumber slot with
  | none => .atOnce .range []
  | some i =>
    if !standstill then .atOnce .notStandstill []
    else
      match (d[i]).state with
      | .sealing => .atOnce .busy []
      | .empty => .atOnce .ok []
      | .sealed => if (d[i]).lock then .atOnce .locked [] else .place (.erase i (d[i]).sequence)
      | .damaged => .place (.erase i (d[i]).sequence)

/-- What a judged slot request does: the reply at once, or the operation with its reply deferred (R167). -/
def State.judged (kind : Byte) (v : SlotVerdict) (s : State) : State :=
  match v with
  | .atOnce r data => s.reply .service kind r data
  | .place op => s.placeService kind op

/-- A LOCK INCIDENT taken (R138). -/
def State.actLockIncident (slot : Byte) (s : State) : State :=
  s.judged kindLockIncident (judgeLock s.recorder.directory slot)

/-- A received LOCK INCIDENT (R138, R161). -/
def State.lockIncident (slot : Byte) (s : State) : State :=
  s.takeFrame .service kindLockIncident 1 (.actLockIncident slot)

/-- LOCK_INCIDENT (R138). -/
def execLockIncident (slot : Byte) (s : State) : Host.Outcome State Fault Refusal := powered (.lockIncident slot) s

/-- An UNLOCK INCIDENT taken (R140). -/
def State.actUnlockIncident (slot : Byte) (s : State) : State :=
  s.judged kindUnlockIncident (judgeUnlock s.recorder.directory s.monitor.standstill slot)

/-- A received UNLOCK INCIDENT (R140, R161). -/
def State.unlockIncident (slot : Byte) (s : State) : State :=
  s.takeFrame .service kindUnlockIncident 1 (.actUnlockIncident slot)

/-- UNLOCK_INCIDENT (R140). -/
def execUnlockIncident (slot : Byte) (s : State) : Host.Outcome State Fault Refusal := powered (.unlockIncident slot) s

/-- An ERASE INCIDENT taken (R141). -/
def State.actEraseIncident (slot : Byte) (s : State) : State :=
  s.judged kindEraseIncident (judgeErase s.recorder.directory s.monitor.standstill slot)

/-- A received ERASE INCIDENT (R141, R161). -/
def State.eraseIncident (slot : Byte) (s : State) : State :=
  s.takeFrame .service kindEraseIncident 1 (.actEraseIncident slot)

/-- ERASE_INCIDENT (R141). -/
def execEraseIncident (slot : Byte) (s : State) : Host.Outcome State Fault Refusal := powered (.eraseIncident slot) s

/-- One match slot replaced (R122). -/
def State.withMatch (i : Fin 4) (m : MatchSlot) (s : State) : State :=
  { s with recorder := { s.recorder with slots := s.recorder.slots.set i m } }

/-- A SET MATCH taken (R122). -/
def State.actSetMatch (slot enabled condition axle : Byte) (threshold : Word16) (s : State) : State :=
  match judgeMatch slot enabled condition axle threshold with
  | none => s.reply .service kindSetMatch .range []
  | some w => (s.withMatch w.1 w.2).reply .service kindSetMatch .ok []

/-- A received SET MATCH (R122, R161). -/
def State.setMatch (slot enabled condition axle : Byte) (threshold : Word16) (s : State) : State :=
  s.takeFrame .service kindSetMatch 6 (.actSetMatch slot enabled condition axle threshold)

/-- SET_MATCH (R122). -/
def execSetMatch (slot enabled condition axle : Byte) (threshold : Word16) (s : State) :
    Host.Outcome State Fault Refusal :=
  powered (.setMatch slot enabled condition axle threshold) s

end Sys2Proof.Machine
end

