-- ==== Sys2Proof/Machine/SupervisionPort.lean ====
section
/-! DEFINITION. The report and the requests of the supervision port: ALIVE, INTERVENE, PENALTY, RELEASE PENALTY, EMERGENCY and FREEZE. -/

namespace Sys2Proof.Machine

/-- The clamp mark of the replies to INTERVENE and PENALTY (R165). -/
def clampMark (effort : Word16) : List Byte := [byteOf (bitFlag (effortClamped effort) 0)]

/-- A received ALIVE: its reception has refreshed the link, and nothing else is done (R165). -/
def State.alive (s : State) : State := s.takeFrame .supervision kindAlive 0 id

/-- ALIVE (R165). -/
def execAlive (s : State) : Host.Outcome State Fault Refusal := powered .alive s

/-- An INTERVENE taken (R14). -/
def State.actIntervene (effort : Word16) (s : State) : State :=
  ((s.arbiterEvent (.takeIntervene effort)).clampNotice (effortClamped effort)).reply .supervision
    kindIntervene .ok (clampMark effort)

/-- A received INTERVENE (R14, R161). -/
def State.intervene (effort : Word16) (s : State) : State :=
  s.takeFrame .supervision kindIntervene 2 (.actIntervene effort)

/-- INTERVENE (R14). -/
def execIntervene (effort : Word16) (s : State) : Host.Outcome State Fault Refusal := powered (.intervene effort) s

/-- A PENALTY taken (R15). -/
def State.actPenalty (effort : Word16) (s : State) : State :=
  ((s.arbiterEvent (.takePenalty effort)).clampNotice (effortClamped effort)).reply .supervision
    kindPenalty .ok (clampMark effort)

/-- A received PENALTY (R15, R161). -/
def State.penalty (effort : Word16) (s : State) : State :=
  s.takeFrame .supervision kindPenalty 2 (.actPenalty effort)

/-- PENALTY (R15). -/
def execPenalty (effort : Word16) (s : State) : Host.Outcome State Fault Refusal := powered (.penalty effort) s

/-- A RELEASE PENALTY taken (R16). -/
def State.actReleasePenalty (s : State) : State :=
  match s.arbiter.releasePenaltyResult with
  | .ok => (s.arbiterEvent .takeReleasePenalty).reply .supervision kindReleasePenalty .ok []
  | r => s.reply .supervision kindReleasePenalty r []

/-- A received RELEASE PENALTY (R16, R161). -/
def State.releasePenalty (s : State) : State := s.takeFrame .supervision kindReleasePenalty 0 .actReleasePenalty

/-- RELEASE_PENALTY (R16). -/
def execReleasePenalty (s : State) : Host.Outcome State Fault Refusal := powered .releasePenalty s

/-- An EMERGENCY taken (R17, R165). -/
def State.actEmergency (s : State) : State :=
  (s.arbiterEvent (.raise .supervision)).reply .supervision kindEmergency .ok []

/-- A received EMERGENCY (R17, R161). -/
def State.emergency (s : State) : State := s.takeFrame .supervision kindEmergency 0 .actEmergency

/-- EMERGENCY (R17). -/
def execEmergency (s : State) : Host.Outcome State Fault Refusal := powered .emergency s

/-- A FREEZE taken (R165). -/
def State.actFreeze (tag : Word16) (s : State) : State :=
  (s.deliver [.triggerArrival (.freeze tag)]).reply .supervision kindFreeze .ok []

/-- A received FREEZE (R165, R161). -/
def State.freeze (tag : Word16) (s : State) : State := s.takeFrame .supervision kindFreeze 2 (.actFreeze tag)

/-- FREEZE (R165). -/
def execFreeze (tag : Word16) (s : State) : Host.Outcome State Fault Refusal := powered (.freeze tag) s

end Sys2Proof.Machine
end

