-- ==== Sys2Proof/Machine/TractionPort.lean ====
section
/-! DEFINITION. The report and the requests of the traction port: CAPABILITY REPORT, WITHDRAW ELECTRIC and RESUME ELECTRIC. -/

namespace Sys2Proof.Machine

/-- A CAPABILITY REPORT taken: the record, the link, the hold effort and its clamp notice (R164, R13, R35). -/
def State.actCapabilityReport (axles : PerAxle AxleReport) (cutOut : Byte) (hold : Word16) (s : State) : State :=
  let recorded := { s with ports := { s.ports with capability := ⟨axles, cutOutFlags cutOut, hold⟩ } }
  let held := (recorded.refreshLink .traction).arbiterEvent (.takeHold hold)
  held.clampNotice (effortClamped hold)

/-- A received CAPABILITY REPORT (R164, R161). -/
def State.capabilityReport (axles : PerAxle AxleReport) (cutOut : Byte) (hold : Word16) (s : State) : State :=
  s.takeFrame .traction kindCapabilityReport 27 (.actCapabilityReport axles cutOut hold)

/-- CAPABILITY_REPORT (R164). -/
def execCapabilityReport (axles : PerAxle AxleReport) (cutOut : Byte) (hold : Word16) (s : State) :
    Host.Outcome State Fault Refusal :=
  powered (.capabilityReport axles cutOut hold) s

/-- A WITHDRAW ELECTRIC taken (R54). DESIGN CHOICE: the WITHDRAW order is handed over before the OK reply is placed, so that at an idle port the order begins first (log 41). -/
def State.actWithdrawElectric (s : State) : State :=
  let withdrawn := { s with ledger := { s.ledger.zeroed with withdrawn := true } }
  (withdrawn.order .withdraw).reply .traction kindWithdrawElectric .ok []

/-- A received WITHDRAW ELECTRIC (R54, R161). -/
def State.withdrawElectric (s : State) : State := s.takeFrame .traction kindWithdrawElectric 0 .actWithdrawElectric

/-- WITHDRAW_ELECTRIC (R54). -/
def execWithdrawElectric (s : State) : Host.Outcome State Fault Refusal := powered .withdrawElectric s

/-- A RESUME ELECTRIC taken (R55). -/
def State.actResumeElectric (s : State) : State :=
  State.reply .traction kindResumeElectric .ok [] { s with ledger := { s.ledger with withdrawn := false } }

/-- A received RESUME ELECTRIC (R55, R161). -/
def State.resumeElectric (s : State) : State := s.takeFrame .traction kindResumeElectric 0 .actResumeElectric

/-- RESUME_ELECTRIC (R55). -/
def execResumeElectric (s : State) : Host.Outcome State Fault Refusal := powered .resumeElectric s

end Sys2Proof.Machine
end

