-- ==== Sys2Proof/Machine/Frames.lean ====
section
/-! DEFINITION. The line side of the ports: received frames and characters, discarded frames, the gap between characters, the end of a transmission, and the freshness timers. -/

namespace Sys2Proof.Machine

/-- What the part does with a received report or request. A command that no frame spells changes nothing here. -/
def State.takeRequest (c : Instr) (s : State) : State :=
  match c with
  | .cabDemand d i a flags => s.cabDemand d i a flags
  | .releaseEmergency p => s.releaseEmergency p
  | .ledgerQuery p => s.ledgerQuery p
  | .capabilityReport axles cutOut hold => s.capabilityReport axles cutOut hold
  | .alive => s.alive
  | .withdrawElectric => s.withdrawElectric
  | .resumeElectric => s.resumeElectric
  | .intervene e => s.intervene e
  | .penalty e => s.penalty e
  | .releasePenalty => s.releasePenalty
  | .emergency => s.emergency
  | .freeze t => s.freeze t
  | .identify => s.identify
  | .readConfig c => s.readConfig c
  | .writeConfig c v => s.writeConfig c v
  | .confirmConfig => s.confirmConfig
  | .readChannel c loops => s.readChannel c loops
  | .assignChannel c f => s.assignChannel c f
  | .driveChannel c on => s.driveChannel c on
  | .listIncidents => s.listIncidents
  | .readIncident sl e p => s.readIncident sl e p
  | .lockIncident sl => s.lockIncident sl
  | .unlockIncident sl => s.unlockIncident sl
  | .eraseIncident sl => s.eraseIncident sl
  | .setMatch sl en co ax th => s.setMatch sl en co ax th
  | .restart => s.restartRequest
  | _ => s

/-- A received frame of any kind (R161): the report or request it is, and otherwise the judgement alone. A frame is received with at most 120 payload bytes (R159). -/
def State.frame (p : PortId) (kind : Byte) (payload : List Byte) (s : State) : State :=
  if longestPayload < payload.length then s
  else
    match decodeFrame s.matrix.loops p kind payload with
    | some c => s.takeRequest c
    | none => s.takeFrame p kind payload.length id

/-- UNKNOWN_KIND (R161). -/
def execUnknownKind (p : PortId) (kind : Byte) (payload : List Byte) (s : State) : Host.Outcome State Fault Refusal :=
  powered (.frame p kind payload) s

/-- A port's receive assembly replaced (R160). -/
def State.withAssembly (p : PortId) (a : Assembly) (s : State) : State :=
  { s with ports := s.ports.withPort p { s.ports.port.get p with assembly := a } }

/-- One character comes in at a port (R160). -/
def State.character (p : PortId) (s : State) (c : LineChar) : State :=
  let fed := (s.ports.port.get p).assembly.feed c
  let moved := s.withAssembly p fed.1
  match fed.2 with
  | none => moved
  | some f => moved.frame p f.kind f.payload

/-- Characters come in at a port with no gap between them (R160). -/
def State.characters (p : PortId) (cs : List LineChar) (s : State) : State := cs.foldl (State.character p) s

/-- FRAME_DISCARDED (R160): the characters of a frame that a framing error, its length or its CRC has the assembly discard. -/
def execFrameDiscarded (p : PortId) (cs : List LineChar) (s : State) : Host.Outcome State Fault Refusal :=
  powered (.characters p cs) s

/-- Characters, and then a gap of more than 2 ms: the frame in assembly is abandoned (R160). -/
def State.gap (p : PortId) (cs : List LineChar) (s : State) : State := (s.characters p cs).withAssembly p .hunt

/-- INTERCHARACTER_GAP_TIMEOUT (R160). -/
def execIntercharacterGapTimeout (p : PortId) (cs : List LineChar) (s : State) : Host.Outcome State Fault Refusal :=
  powered (.gap p cs) s

/-- A transmission ends; a warm restart may have waited for it (R163, R189). -/
def State.transmissionEnds (p : PortId) (s : State) : State :=
  State.restartIfDue { s with ports := s.ports.endTransmission p }

/-- TRANSMISSION_ENDS (R163). -/
def execTransmissionEnds (p : PortId) (s : State) : Host.Outcome State Fault Refusal := powered (.transmissionEnds p) s

/-- A freshness timer expires: a FRESH link whose timeout has elapsed becomes LOST, and nothing else is an expiry (R170). -/
def State.freshness (m : Master) (s : State) : State :=
  if s.ports.expired s.cfg s.time m then s.loseLink m else s

/-- FRESHNESS_EXPIRY (R170). -/
def execFreshnessExpiry (m : Master) (s : State) : Host.Outcome State Fault Refusal := powered (.freshness m) s

end Sys2Proof.Machine
end

