-- ==== Sys2Proof/Machine/PowerEvents.lean ====
section
/-! DEFINITION. The drivers' health, the RESTART line, the warm restart, the power-on reset and the loss of power. -/

namespace Sys2Proof.Machine

/-- A driver's health as its load makes it, whether or not the part has power (log 6). -/
def State.withDriverHealth (d : Fin 8) (h : DriverHealth) (s : State) : State :=
  { s with matrix := { s.matrix with health := s.matrix.health.set d h } }

/-- The channel matrix takes a change of a driver's health from `before` (R151). -/
def State.driverHealth (d : Fin 8) (before after : DriverHealth) (s : State) : State :=
  let x := healthChange (s.matrix.ownedOutput d) s.matrix.marks[d] before after
  State.deliver { s with matrix := { s.matrix with marks := s.matrix.marks.set d x.1 } }
    (if x.2 then [.triggerArrival (.valveFault d)] else [])

/-- A driver can find its load so: a short is found while the driver is on, an open load whether it is on or off (R151). -/
def Matrix.canFind (m : Matrix) (d : Fin 8) (h : DriverHealth) : Bool := h ≠ .shortLoad || m.driven d

/-- DRIVER_HEALTH_CHANGE (R151). DEDUCED: a driver that is off finds no short, so that a report of one changes nothing (log 42). -/
def execDriverHealthChange (d : Fin 8) (h : DriverHealth) (s : State) : Host.Outcome State Fault Refusal :=
  if s.matrix.canFind d h then powered (.driverHealth d s.matrix.health[d] h) (s.withDriverHealth d h) else .next s

/-- The RESTART line calls a warm restart where it was not asserted before (R188). -/
def State.lineRestart (was : Bool) (s : State) : State := if was then s else s.callRestart .restartLine

/-- RESTART_LINE_ASSERTED (R188). -/
def execRestartLineAsserted (s : State) : Host.Outcome State Fault Refusal :=
  powered (.lineRestart s.restartLine) { s with restartLine := true }

/-- RESTART_LINE_RELEASED (R188): the line's next assertion can call another restart. -/
def execRestartLineReleased (s : State) : Host.Outcome State Fault Refusal := .next { s with restartLine := false }

/-- WARM_RESTART (R189): a pending restart takes effect if its two conditions hold. -/
def execWarmRestart (s : State) : Host.Outcome State Fault Refusal := powered .restartIfDue s

/-- POWER_ON_RESET (R184). -/
def execPowerOnReset (s : State) : Host.Outcome State Fault Refusal := .next s.powerOn

/-- Power is lost: the operation in flight leaves in the array what its owner's rule says, and every volatile record is lost (R187). -/
def State.powerLoss (x : NvProgress) (s : State) : State := (s.interrupt x).dark

/-- POWER_LOSS (R187). -/
def execPowerLoss (x : NvProgress) (s : State) : Host.Outcome State Fault Refusal := powered (.powerLoss x) s

end Sys2Proof.Machine
end

