-- ==== Sys2Proof/Machine/RecorderEvents.lean ====
section
/-! DEFINITION. The events of the incident recorder and of the NV store controller: samples, trigger arrivals, and the completions of NV operations. -/

namespace Sys2Proof.Machine

/-- One sample event (R118): the sample, the ring and the buffers, the seal a capture's end asks for, and the match slots with their triggers. -/
def State.recorderSample (s : State) : State :=
  let x := s.sampleInputs
  let sampled := State.nvTurn { s with recorder := s.recorder.takeSample x, timers := { s.timers with sample := s.time } }
  let evaluated := { sampled with recorder := sampled.recorder.evaluateSlots x }
  (sampled.recorder.matchTriggers x).foldl (fun t f => t.arrive f) evaluated

/-- RECORDER_SAMPLE (R118). -/
def execRecorderSample (s : State) : Host.Outcome State Fault Refusal := powered .recorderSample s

/-- TRIGGER_ARRIVAL (R125). -/
def execTriggerArrival (t : Trigger) (s : State) : Host.Outcome State Fault Refusal :=
  delivered (.triggerArrival t) (.arrive t) s

/-- A buffer replaced. -/
def State.withBuffer (i : Fin 2) (b : Buffer) (s : State) : State := { s with recorder := s.recorder.withBuffer i b }

/-- The seal in flight completes (R132). -/
def State.sealComplete (s : State) : State :=
  match s.nv.inFlight with
  | some (.sealing i slot autoLock _) =>
    let b := s.recorder.buffers[i]
    let written := s.writeSlot slot (sealedSlot b .sealed autoLock)
    let listed := written.withEntry slot ⟨.sealed, autoLock, b.sequence, b.firstKind⟩
    (listed.withBuffer i .free).afterCompletion
  | _ => s

/-- SEAL_COMPLETE (R132). -/
def execSealComplete (s : State) : Host.Outcome State Fault Refusal := powered .sealComplete s

/-- Step 4 of a seal that is to auto-lock completes (R132). -/
def State.sealedState (s : State) : State :=
  match s.nv.inFlight with
  | some (.sealing i slot true false) =>
    let b := s.recorder.buffers[i]
    let written := s.writeSlot slot (sealedSlot b .sealed false)
    let listed := written.withEntry slot ⟨.sealed, false, b.sequence, b.firstKind⟩
    { listed with nv := { listed.nv with inFlight := some (.sealing i slot true true) } }
  | _ => s

/-- SEALED_STATE_WRITTEN (R132). -/
def execSealedStateWritten (s : State) : Host.Outcome State Fault Refusal := powered .sealedState s

/-- The live set that a configuration store leaves (R182, step 1). -/
def writtenSet (cfg : ConfigSet) : Option (Param × Nat) → ConfigSet
  | none => cfg
  | some w => cfg.put w.1 w.2

/-- The store's own steps of a completed configuration store, with the arbiter's part (R182 steps 1 to 3, R180, R2). -/
def State.storeWritten (w : Option (Param × Nat)) (s : State) : State :=
  let defaulted := s.store.state = .defaulted
  let stored := { s with store := ⟨writtenSet s.store.live w, .valid, s.store.sequence + 1⟩ }
  stored.arbiterEvent (if defaulted then .takeConfigValid else id)

/-- A running timer measured with a parameter's new value (R18, R170, R180). -/
def State.remeasured (p : Param) (s : State) : State :=
  match p with
  | .emergencyHoldMs => s.arbiterEvent (.evaluateRaisers s.cfg s.time)
  | .cabTimeout => if s.ports.expired s.cfg s.time .cab then s.loseLink .cab else s
  | .tractionTimeout => if s.ports.expired s.cfg s.time .traction then s.loseLink .traction else s
  | .supervisionTimeout => if s.ports.expired s.cfg s.time .supervision then s.loseLink .supervision else s
  | _ => s

/-- The configuration store in flight completes (R182, R183). -/
def State.configurationStoreComplete (s : State) : State :=
  match s.nv.inFlight with
  | some (.service (.configStore w) _) =>
    let stored := s.storeWritten w
    let measured := match w with
      | none => stored
      | some pv => stored.remeasured pv.1
    (measured.writeImage.deferredReply .ok []).afterCompletion
  | _ => s

/-- CONFIGURATION_STORE_COMPLETE (R182). -/
def execConfigurationStoreComplete (s : State) : Host.Outcome State Fault Refusal :=
  powered .configurationStoreComplete s

/-- The steps of the channel matrix at a completed assignment (R157), and the sequence. -/
def State.assigned (ch : Fin 22) (f : ChanFn) (s : State) : State :=
  let m := s.matrix.assign ch f
  State.deliver
    { s with
      matrix := m.alignMarks
      store := { s.store with sequence := s.store.sequence + 1 } }
    m.alignTriggers

/-- The assignment store in flight completes (R157, R182, R183). -/
def State.assignmentStoreComplete (s : State) : State :=
  match s.nv.inFlight with
  | some (.service (.assignStore ch f) _) => (((s.assigned ch f).writeImage).deferredReply .ok []).afterCompletion
  | _ => s

/-- ASSIGNMENT_STORE_COMPLETE (R157). -/
def execAssignmentStoreComplete (s : State) : Host.Outcome State Fault Refusal := powered .assignmentStoreComplete s

/-- A slot's lock flag written in its header and in the directory (R139, R140). -/
def State.withLock (slot : Fin 12) (lock : Bool) (s : State) : State :=
  let written := s.writeSlot slot ((s.array.slots[slot]).withLock lock)
  written.withEntry slot { s.recorder.directory[slot] with lock := lock }

/-- The lock write in flight completes (R139). -/
def State.lockWriteComplete (s : State) : State :=
  match s.nv.inFlight with
  | some (.service (.lock slot _) _) => ((s.withLock slot true).deferredReply .ok [0]).afterCompletion
  | _ => s

/-- LOCK_WRITE_COMPLETE (R139). -/
def execLockWriteComplete (s : State) : Host.Outcome State Fault Refusal := powered .lockWriteComplete s

/-- The unlock write in flight completes (R140). -/
def State.unlockWriteComplete (s : State) : State :=
  match s.nv.inFlight with
  | some (.service (.unlock slot) _) => ((s.withLock slot false).deferredReply .ok []).afterCompletion
  | _ => s

/-- UNLOCK_WRITE_COMPLETE (R140). -/
def execUnlockWriteComplete (s : State) : Host.Outcome State Fault Refusal := powered .unlockWriteComplete s

/-- The header write of an erase (R142): the slot becomes EMPTY, keeping its sequence number and first trigger kind. -/
def State.emptied (slot : Fin 12) (s : State) : State :=
  let e := s.recorder.directory[slot]
  let old := s.array.slots[slot]
  let written := s.writeSlot slot ⟨erasedHeader s.draws old.header, old.body⟩
  { written.withEntry slot ⟨.empty, false, e.sequence, e.kind⟩ with draws := s.draws + 1 }

/-- The erase in flight reports its header write (R142). -/
def State.eraseHeaderWritten (s : State) : State :=
  match s.nv.inFlight with
  | some (.service (.erase slot n) false) =>
    let t := s.emptied slot
    { t with nv := { t.nv with inFlight := some (.service (.erase slot n) true) } }
  | _ => s

/-- ERASE_HEADER_WRITTEN (R142). -/
def execEraseHeaderWritten (s : State) : Host.Outcome State Fault Refusal := powered .eraseHeaderWritten s

/-- The body of an erased slot is cleared (R142, log 9). -/
def State.bodyCleared (slot : Fin 12) (s : State) : State :=
  let old := s.array.slots[slot]
  { s.writeSlot slot ⟨old.header, clearedBody s.draws old.body.length old.body⟩ with draws := s.draws + 1 }

/-- The erase in flight completes (R142); a header write it has not reported is done with it. -/
def State.eraseComplete (s : State) : State :=
  match s.nv.inFlight with
  | some (.service (.erase slot _) headerWritten) =>
    let headed := if headerWritten then s else s.emptied slot
    ((headed.bodyCleared slot).deferredReply .ok []).afterCompletion
  | _ => s

/-- ERASE_COMPLETE (R142). -/
def execEraseComplete (s : State) : Host.Outcome State Fault Refusal := powered .eraseComplete s

end Sys2Proof.Machine
end

