-- ==== Sys2Proof/Machine/Dispatch.lean ====
section
/-! DEFINITION. The meaning of every command: one arm for each constructor of Instr. -/

namespace Sys2Proof.Machine

/-- The effect of a command on everything but the queue. -/
def exec (i : Instr) (s : State) : Host.Outcome State Fault Refusal :=
  match i with
  | .cabDemand dynamic independent automatic flags => Sys2Proof.Machine.execCabDemand dynamic independent automatic flags s
  | .releaseEmergency port => Sys2Proof.Machine.execReleaseEmergency port s
  | .ledgerQuery port => Sys2Proof.Machine.execLedgerQuery port s
  | .capabilityReport axles cutOut hold => Sys2Proof.Machine.execCapabilityReport axles cutOut hold s
  | .alive => Sys2Proof.Machine.execAlive s
  | .withdrawElectric => Sys2Proof.Machine.execWithdrawElectric s
  | .resumeElectric => Sys2Proof.Machine.execResumeElectric s
  | .intervene effort => Sys2Proof.Machine.execIntervene effort s
  | .penalty effort => Sys2Proof.Machine.execPenalty effort s
  | .releasePenalty => Sys2Proof.Machine.execReleasePenalty s
  | .emergency => Sys2Proof.Machine.execEmergency s
  | .freeze tag => Sys2Proof.Machine.execFreeze tag s
  | .identify => Sys2Proof.Machine.execIdentify s
  | .readConfig code => Sys2Proof.Machine.execReadConfig code s
  | .writeConfig code value => Sys2Proof.Machine.execWriteConfig code value s
  | .confirmConfig => Sys2Proof.Machine.execConfirmConfig s
  | .readChannel channel loops => Sys2Proof.Machine.execReadChannel channel loops s
  | .assignChannel channel function => Sys2Proof.Machine.execAssignChannel channel function s
  | .driveChannel channel state => Sys2Proof.Machine.execDriveChannel channel state s
  | .listIncidents => Sys2Proof.Machine.execListIncidents s
  | .readIncident slot expected part => Sys2Proof.Machine.execReadIncident slot expected part s
  | .lockIncident slot => Sys2Proof.Machine.execLockIncident slot s
  | .unlockIncident slot => Sys2Proof.Machine.execUnlockIncident slot s
  | .eraseIncident slot => Sys2Proof.Machine.execEraseIncident slot s
  | .setMatch slot enabled condition axle threshold => Sys2Proof.Machine.execSetMatch slot enabled condition axle threshold s
  | .restart => Sys2Proof.Machine.execRestart s
  | .unknownKind port kind payload => Sys2Proof.Machine.execUnknownKind port kind payload s
  | .frameDiscarded port chars => Sys2Proof.Machine.execFrameDiscarded port chars s
  | .intercharacterGapTimeout port chars => Sys2Proof.Machine.execIntercharacterGapTimeout port chars s
  | .transmissionEnds port => Sys2Proof.Machine.execTransmissionEnds port s
  | .freshnessExpiry port => Sys2Proof.Machine.execFreshnessExpiry port s
  | .emergencyHoldExpiry => Sys2Proof.Machine.execEmergencyHoldExpiry s
  | .emergencyLineAsserted => Sys2Proof.Machine.execEmergencyLineAsserted s
  | .emergencyLineReleased => Sys2Proof.Machine.execEmergencyLineReleased s
  | .brakePipeConditionBegun => Sys2Proof.Machine.execBrakePipeConditionBegun s
  | .brakePipeConditionCleared => Sys2Proof.Machine.execBrakePipeConditionCleared s
  | .transducerHealthChange which healthy => Sys2Proof.Machine.execTransducerHealthChange which healthy s
  | .standstillChange set => Sys2Proof.Machine.execStandstillChange set s
  | .clipRequest axle => Sys2Proof.Machine.execClipRequest axle s
  | .emergencyNotice => Sys2Proof.Machine.execEmergencyNotice s
  | .blendPeriod => Sys2Proof.Machine.execBlendPeriod s
  | .truckSample truck loops => Sys2Proof.Machine.execTruckSample truck loops s
  | .pipeSample loops => Sys2Proof.Machine.execPipeSample loops s
  | .axleWindow pulses => Sys2Proof.Machine.execAxleWindow pulses s
  | .slideWindow completion => Sys2Proof.Machine.execSlideWindow completion s
  | .s8LeavesIdle => Sys2Proof.Machine.execS8LeavesIdle s
  | .recorderSample => Sys2Proof.Machine.execRecorderSample s
  | .triggerArrival trigger => Sys2Proof.Machine.execTriggerArrival trigger s
  | .sealComplete => Sys2Proof.Machine.execSealComplete s
  | .configurationStoreComplete => Sys2Proof.Machine.execConfigurationStoreComplete s
  | .assignmentStoreComplete => Sys2Proof.Machine.execAssignmentStoreComplete s
  | .lockWriteComplete => Sys2Proof.Machine.execLockWriteComplete s
  | .unlockWriteComplete => Sys2Proof.Machine.execUnlockWriteComplete s
  | .eraseHeaderWritten => Sys2Proof.Machine.execEraseHeaderWritten s
  | .eraseComplete => Sys2Proof.Machine.execEraseComplete s
  | .driverHealthChange channel health => Sys2Proof.Machine.execDriverHealthChange channel health s
  | .restartLineAsserted => Sys2Proof.Machine.execRestartLineAsserted s
  | .warmRestart => Sys2Proof.Machine.execWarmRestart s
  | .powerOnReset => Sys2Proof.Machine.execPowerOnReset s
  | .powerLoss progress => Sys2Proof.Machine.execPowerLoss progress s
  | .restartLineReleased => Sys2Proof.Machine.execRestartLineReleased s
  | .sealedStateWritten => Sys2Proof.Machine.execSealedStateWritten s

end Sys2Proof.Machine
end

