-- ==== Sys2Proof/Machine/Step.lean ====
section
/-! DEFINITION. One step of the part: the command at the front of the queue; on an empty queue, the oldest delivery between the blocks; with neither, one millisecond of the device time base. -/

namespace Sys2Proof.Machine

/-- One step. DESIGN CHOICE (log 1, log 3): on an empty queue the oldest delivery is taken, and with none a part that has power counts 1 ms. -/
def step (s : State) : Host.Outcome State Fault Refusal :=
  match s.pending with
  | c :: rest => exec c { s with pending := rest }
  | [] =>
    match s.deliveries with
    | c :: _ => exec c s
    | [] => .next (if s.powered then { s with time := s.time + 1 } else s)

/-- The state with the command that a table word spells at the front of its queue (log 2: the table gives no bits, so none is spelt). -/
def State.withFetchWord (s : State) (nbits w : Nat) : State :=
  match decodeTableWord nbits w with
  | some c => { s with pending := c :: s.pending }
  | none => s

end Sys2Proof.Machine
end

