-- ==== Sys2Proof/Safety.lean ====
section
/-! DEFINITION. What the claims mean by a good state: the laws that the spec says hold at every moment, and the moments at which the spec lets a command come. -/

namespace Sys2Proof.Machine

/-- The two laws of R3, with what R1 and section 1.2 say of the governor and of the HELD entries. -/
structure Arbiter.Lawful (a : Arbiter) : Prop where
  governs : ∀ g, a.standing g = .governing ↔ a.governor = some g
  held : ∀ g, a.standing g = .held ↔ g ∈ a.stack
  rising : a.stack.Pairwise fun x y => sourceLevel x < sourceLevel y
  below : ∀ g ∈ a.stack, sourceLevel g < a.authority
  waiting : ∀ g, a.standing g = .pending → sourceLevel g ≤ a.authority

/-- Each entry is non-idle exactly under its condition of R2. -/
def Arbiter.Conditioned (a : Arbiter) : Prop := ∀ g, a.nonIdle g = a.wants g

/-- The arbiter as every event leaves it: the laws of its table and the record rebuilt of it (R2, R3, R27). -/
structure ArbiterInv (s : State) : Prop where
  lawful : s.arbiter.Lawful
  conditioned : s.arbiter.Conditioned
  record : s.arbiter.record = s.arbiter.buildRecord

/-- An effort order that waits carries the ledger's commands as they stand, with its last order reason (R163, R50). -/
def OrderInv (s : State) : Prop :=
  ∀ o, s.ports.order = some o → o.commands = s.ledger.cmd ∧ o.reason = s.ledger.lastReason

/-- No port has more than four waiting replies, the place kept for a deferred reply counted (R163, R167). -/
def QueueInv (s : State) : Prop := ∀ p, s.ports.waiting p ≤ 4

/-- The histories and lists keep their bounds (R67, R76, R121, R126), and every header in the array its 58 bytes (section 8.9). -/
structure Bounded (s : State) : Prop where
  ring : s.recorder.ring.length ≤ 64
  readings : s.watch.history.length ≤ 50
  pulses : ∀ i, (s.monitor.axles.get i).pulses.length ≤ 8
  speeds : ∀ i, (s.monitor.axles.get i).speeds.length ≤ 8
  entries : ∀ b : Fin 2, (s.recorder.buffers[b]).entries.length ≤ 6
  headers : ∀ i : Fin 12, (s.array.slots[i]).header.length = 58

/-- The parameter that holds a master link's timeout (R170). -/
def timeoutParam : Master → Param
  | .cab => .cabTimeout | .traction => .tractionTimeout | .supervision => .supervisionTimeout

/-- The operation in flight is a service operation. -/
def State.serviceInFlight (s : State) : Option ServiceOp :=
  match s.nv.inFlight with
  | some (.service op _) => some op
  | _ => none

/-- A service operation that may complete on a live set and a table: a written set is legal (R182), an assigned table passes R149 (R156). -/
def ServiceOp.Sound (cfg : ConfigSet) (t : ChannelTable) : ServiceOp → Prop
  | .configStore w => (match w with | none => cfg | some pv => cfg.put pv.1 pv.2).legal = true
  | .assignStore ch f => tableOk (assignTable t ch f) = true
  | .lock _ _ | .unlock _ | .erase _ _ => True

/-- The live set is legal and the table is one that R147 allows; one service operation at a time waits or is in flight, with its reply outstanding, and it is sound (R147, R167, R180, R182). -/
structure ConfigInv (s : State) : Prop where
  legal : s.store.live.legal = true
  table : tableOk s.matrix.table = true
  owed : s.ports.outstanding = none → s.serviceInFlight = none ∧ s.nv.serviceWait = none
  single : s.serviceInFlight = none ∨ s.nv.serviceWait = none
  flying : ∀ op, s.serviceInFlight = some op → op.Sound s.store.live s.matrix.table
  waiting : ∀ op, s.nv.serviceWait = some op → op.Sound s.store.live s.matrix.table

/-- The laws of the incident store at every moment: at most eight locked slots, at most one SEALING, at most one CAPTURING buffer, and locks on SEALED slots alone (R133). -/
structure DirectoryLaws (r : Recorder) : Prop where
  locked : lockedCount r.directory ≤ maxLocked
  sealedOnly : ∀ i : Fin 12, (r.directory[i]).lock = true → (r.directory[i]).state = .sealed
  oneSealing : ∀ i j : Fin 12, (r.directory[i]).state = .sealing → (r.directory[j]).state = .sealing → i = j
  oneCapturing : ∀ b c : Fin 2, (r.buffers[b]).state = .capturing → (r.buffers[c]).state = .capturing → b = c

/-- The interval timers of 00_scope.md, and when the spec lets a timed event, a delivered event or a completion come. A request, a report, a line event or a reset may come at any moment. The meanings do not ask this: it says which runs the spec has. -/
def State.admits (s : State) (c : Instr) : Bool :=
  match c with
  | .axleWindow _ => s.timers.window + 10 ≤ s.time
  | .truckSample t _ => s.timers.truck.get t + 10 ≤ s.time
  | .pipeSample _ => s.timers.pipe + 10 ≤ s.time
  | .blendPeriod => s.timers.blend + 20 ≤ s.time
  | .recorderSample => s.timers.sample + 100 ≤ s.time
  | .freshnessExpiry m => s.ports.expired s.cfg s.time m
  | .emergencyHoldExpiry => s.arbiter.holdPassed s.cfg s.time
  | .emergencyNotice | .s8LeavesIdle | .brakePipeConditionBegun | .brakePipeConditionCleared
  | .transducerHealthChange .. | .standstillChange .. | .clipRequest .. | .slideWindow .. | .triggerArrival .. =>
    s.deliveries.contains c
  | .sealComplete => match s.nv.inFlight with | some (.sealing ..) => true | _ => false
  | .sealedStateWritten => match s.nv.inFlight with | some (.sealing _ _ true false) => true | _ => false
  | .configurationStoreComplete => match s.serviceInFlight with | some (.configStore _) => true | _ => false
  | .assignmentStoreComplete => match s.serviceInFlight with | some (.assignStore _ _) => true | _ => false
  | .lockWriteComplete => match s.serviceInFlight with | some (.lock _ _) => true | _ => false
  | .unlockWriteComplete => match s.serviceInFlight with | some (.unlock _) => true | _ => false
  | .eraseHeaderWritten => match s.nv.inFlight with | some (.service (.erase _ _) false) => true | _ => false
  | .eraseComplete => match s.serviceInFlight with | some (.erase _ _) => true | _ => false
  | .transmissionEnds p => (s.ports.port.get p).sending.isSome
  | .driverHealthChange d h => s.matrix.canFind d h
  | .warmRestart => s.restart.isSome
  | .emergencyLineAsserted => !s.emergencyLine
  | .emergencyLineReleased => s.emergencyLine
  | .restartLineAsserted => !s.restartLine
  | .restartLineReleased => s.restartLine
  | .powerOnReset => !s.powered
  | .powerLoss _ => s.powered
  | _ => true

/-! ### What the claims say of one event -/

/-- The frames of a port in the order in which they go (R163): the one in transmission, the effort order that waits, and the replies that wait. -/
def Ports.line (ps : Ports) (p : PortId) : List Frame :=
  (ps.port.get p).sending.toList
  ++ (if p = .traction then ps.order.toList.map EffortOrder.frame else [])
  ++ (ps.port.get p).replies

/-- The conditions under which R161 lets a port take a request of its own, of the right length: there is room for its reply, and on the service port no deferred reply is outstanding. -/
def State.ready (s : State) (p : PortId) : Prop :=
  s.powered = true ∧ s.ports.waiting p < 4 ∧ (p = .service → s.ports.outstanding = none)

/-- A frame `f` has joined a port's line as its last, and nothing else about the ports has changed but what may have begun transmission (R162, R163). -/
structure Ports.Queued (a b : Ports) (p : PortId) (f : Frame) : Prop where
  line : b.line p = a.line p ++ [f]
  assembly : (b.port.get p).assembly = (a.port.get p).assembly
  others : ∀ q, q ≠ p → b.port.get q = a.port.get q
  order : p ≠ .traction → b.order = a.order
  rest : b = { a with port := b.port, order := b.order }

/-- A reply was placed at a port, and nothing but the ports changed (R162). -/
structure State.Replied (s t : State) (p : PortId) (f : Frame) : Prop where
  queued : s.ports.Queued t.ports p f
  rest : t = { s with ports := t.ports }

/-- What one event of the arbiter leaves in its table, from a table that keeps R2 and R3; `touched` are the sources whose conditions or efforts the event itself changes. -/
structure Arbiter.Follows (cfg : ConfigSet) (now : Nat) (touched : List Source) (a b : Arbiter) : Prop where
  /-- R3. -/
  lawful : b.Lawful
  /-- R2: non-idle exactly under the source's condition. -/
  conditioned : b.Conditioned
  /-- R5: a source the event does not touch stays idle, or non-idle. -/
  nonIdle : ∀ g, g ∉ touched → b.nonIdle g = a.nonIdle g
  /-- The efforts of S0 to S5, but for the touched ones. -/
  efforts : ∀ g, g ∉ touched → g ≠ .s6 → g ≠ .s7 → g ≠ .s8 →
    (b.entries.get g).posted = (a.entries.get g).posted ∧ (b.entries.get g).inForce = (a.entries.get g).inForce
  /-- R1: the stamp is written when an entry leaves IDLE, and at no other time. -/
  stamp : ∀ g, (b.entries.get g).stamp = if b.nonIdle g && !a.nonIdle g then now else (a.entries.get g).stamp
  /-- R5: where no entry leaves or goes IDLE, governor and stack stand. -/
  still : (∀ g, b.nonIdle g = a.nonIdle g) → b.governor = a.governor ∧ b.stack = a.stack
  /-- R2: the in-force efforts of S6, S7 and S8. -/
  penalty : b.inForce .s6 = if b.nonIdle .s6 then cfg.penaltyEffort else 0
  restraint : b.inForce .s7 = if b.nonIdle .s7 then cfg.restraintEffort else 0
  emergency : b.inForce .s8 = if b.nonIdle .s8 then cfg.emergencyEffort else 0
  /-- R27: the record is rebuilt. -/
  record : b.record = b.buildRecord

/-- A source went from IDLE to non-idle. -/
def Arbiter.left (a b : Arbiter) (g : Source) : Prop := a.nonIdle g = false ∧ b.nonIdle g = true

/-- What one event of the arbiter does to the rest of the part: the vent follows S8 (R66); where S8 left IDLE the emergency notice, the slide controller's event and EMERGENCY_ACCEPTED are delivered (R20, R110), and where S5 or S6 did, PENALTY_ACCEPTED (R25). -/
structure ArbiterReports (s t : State) : Prop where
  vent : t.matrix.functions.emergencyVent =
    if s.arbiter.nonIdle .s8 = t.arbiter.nonIdle .s8 then s.matrix.functions.emergencyVent else t.arbiter.nonIdle .s8
  matrix : t.matrix =
    { s.matrix with functions := { s.matrix.functions with emergencyVent := t.matrix.functions.emergencyVent } }
  rest : t = { s with arbiter := t.arbiter, matrix := t.matrix, deliveries := t.deliveries }
  quiet : (∀ g, ¬ s.arbiter.left t.arbiter g) → t.deliveries = s.deliveries
  emergency : s.arbiter.left t.arbiter .s8 → ∃ more, t.deliveries = s.deliveries ++
    [.emergencyNotice, .s8LeavesIdle, .triggerArrival (.emergencyAccepted t.arbiter.emergencyRaisers.first)] ++ more
  penalty : s.arbiter.left t.arbiter .s5 → .triggerArrival (.penaltyAccepted .s5) ∈ t.deliveries
  loss : s.arbiter.left t.arbiter .s6 → .triggerArrival (.penaltyAccepted (.s6 t.arbiter.lossRaisers.first)) ∈ t.deliveries
  only : ∀ c, c ∈ t.deliveries → c ∉ s.deliveries →
    c = .emergencyNotice ∨ c = .s8LeavesIdle
    ∨ (∃ r, c = .triggerArrival (.emergencyAccepted r)) ∨ (∃ r, c = .triggerArrival (.penaltyAccepted r))

/-- Everything in the arbiter but the entries, the governor, the stack and the record is as in `a`. -/
def Arbiter.Rest (a b : Arbiter) : Prop :=
  b = { a with entries := b.entries, governor := b.governor, stack := b.stack, record := b.record }

/-- The arbiter with the copy of a link's state set to FRESH (R172, R173). -/
def Arbiter.withFresh (a : Arbiter) : Master → Arbiter
  | .cab => { a with cabFresh := true }
  | .supervision => { a with supervisionFresh := true }
  | .traction => a

/-- A master port has refreshed its link (R170). Where that made the cab or supervision link FRESH, the arbiter took it as one event, a condition of restraint: restraint is released where the five conditions of R26 now hold (R172, R173). -/
structure LinkRefreshed (m : Master) (s t : State) : Prop where
  ports : t.ports = { s.ports with link := s.ports.link.set m ⟨.fresh, s.time⟩ }
  kept : (s.ports.link.get m).state = .fresh ∨ m = .traction → t = { s with ports := t.ports }
  reports : ArbiterReports { s with ports := t.ports } t
  changed : (s.ports.link.get m).state ≠ .fresh → m ≠ .traction →
    Arbiter.Rest
      { s.arbiter.withFresh m with
        restraintRaised := s.arbiter.restraintRaised && !(s.arbiter.withFresh m).restraintMet }
      t.arbiter
    ∧ (ArbiterInv s → Arbiter.Follows s.store.live s.time [.s7] s.arbiter t.arbiter)
  laws : ArbiterInv s → ArbiterInv t

/-- A service operation has been placed by a taken request: its reply is owed, and it is granted at once where nothing is in flight or waits, or waits behind what is in flight or behind a pending restart (R167, R186, R189). -/
structure State.Placed (s t : State) (kind : Byte) (op : ServiceOp) : Prop where
  owed : t.ports = { s.ports with outstanding := some kind }
  granted : s.restart = none → s.nv = .empty → oldestAwaiting s.recorder.buffers = none →
    t = { s with ports := t.ports, nv := ⟨some (.service op false), none, none⟩ }
  waits : s.restart.isSome = true ∨ s.nv.inFlight.isSome = true →
    t.nv.serviceWait = some op ∧ t.nv.inFlight = s.nv.inFlight ∧ t = { s with ports := t.ports, nv := t.nv }

/-- What the deferred reply of a completed operation does to the ports: it joins the service port's line and the outstanding-request flag clears, and without an outstanding request the ports stand (R167). -/
def Ports.Answered (a b : Ports) (r : Result) (data : List Byte) : Prop :=
  (a.outstanding = none → b = a)
  ∧ ∀ kind, a.outstanding = some kind →
    Ports.Queued { a with outstanding := none } b .service (replyFrame kind r data)

/-- No restart is pending, and nothing waits for the array: no SEAL, no service operation and no AWAITING_SEAL buffer. -/
def State.nothingWaits (s : State) : Prop :=
  s.restart = none ∧ s.nv.recorderWait = none ∧ s.nv.serviceWait = none ∧ oldestAwaiting s.recorder.buffers = none

/-- The header write of an erase: state EMPTY and lock clear, with the sequence number and the first trigger kind kept (R142). -/
structure NvSlot.Emptied (a b : NvSlot) : Prop where
  length : b.header.length = 58
  state : numberAt b.header 0 1 = 0
  lock : numberAt b.header 1 1 = 0
  sequence : numberAt b.header 2 4 = numberAt a.header 2 4
  kind : numberAt b.header 6 1 = numberAt a.header 6 1

/-- An effort order of a reason was built of the ledger's commands and handed to the traction port (R50, R163). -/
structure State.Ordered (s t : State) (reason : OrderReason) : Prop where
  commands : ∀ i, t.ledger.cmd.get i =
    if s.arbiter.record.emergency then 0 else min (s.ledger.cmd.get i) (s.slide.axles.get i).lim
  ledger : t.ledger = { s.ledger with cmd := t.ledger.cmd, lastReason := reason }
  line : t.ports.line .traction = s.ports.port.traction.sending.toList
    ++ [EffortOrder.frame ⟨t.ledger.cmd, reason⟩] ++ s.ports.port.traction.replies
  rest : t = { s with
    ledger := t.ledger
    ports := { s.ports with
      port := { s.ports.port with traction := t.ports.port.traction }, order := t.ports.order } }
  assembly : t.ports.port.traction.assembly = s.ports.port.traction.assembly

/-- A characters' run through a receive assembly: its last state and the frames received, in their order. -/
def Assembly.run : Assembly → List LineChar → Assembly × List Received
  | a, [] => (a, [])
  | a, c :: cs =>
    let r := Assembly.run (a.feed c).1 cs
    (r.1, (a.feed c).2.toList ++ r.2)

/-- The condition of a match slot, of the values that its owners hold (R123). -/
def MatchSlot.met (s : State) (m : MatchSlot) : Prop :=
  match m.condition with
  | .refAbove => m.threshold < s.monitor.reported
  | .refBelow => s.monitor.reported < m.threshold
  | .creepAbove => ∃ i : Axle, i.number = m.axle.toNat ∧ m.threshold < (s.slide.axles.get i).creep
  | .pipeBelow => s.watch.pressure < m.threshold
  | .deficitAbove => m.threshold < s.ledger.deficit
  | .authorityAtLeast => m.threshold ≤ s.ledger.demand.authority

/-- A sample record of the owners' values at an expiry, with its quantized fields (R106, R119, R120). -/
structure State.Sampled (s : State) (x : Sample) : Prop where
  marker : x.marker = s.recorder.marker
  reference : x.reference = s.monitor.reported
  authority : x.authority = s.ledger.demand.authority ∧ x.governor = s.ledger.demand.governor
  demands : x.blended = s.ledger.demand.blended ∧ x.airFloor = s.ledger.demand.airFloor
    ∧ x.electricOnly = s.ledger.demand.electricOnly
  sums : x.sumAch = s.ledger.sumAch ∧ x.airA = s.ledger.airForce.a ∧ x.airB = s.ledger.airForce.b
  cylinders : x.cylinderA = min ((s.loops.a.measured + 1) / 2) 255 ∧ x.cylinderB = min ((s.loops.b.measured + 1) / 2) 255
  pipe : x.pipe = min ((s.watch.pressure + 2) / 4) 255
  axles : ∀ i, (x.axles.get i).state = (s.slide.axles.get i).state
    ∧ (x.axles.get i).creep = min (((s.slide.axles.get i).creep + 2) / 4) 255
    ∧ (x.axles.get i).decel =
      if 0 ≤ (s.slide.axles.get i).decel then min (((s.slide.axles.get i).decel + 2) / 4) 127
      else max (-((2 - (s.slide.axles.get i).decel) / 4)) (-128)
  limits : ∀ i, (x.axles.get i).lim = (s.slide.axles.get i).lim
  flags : x.bail = s.ledger.demand.bail ∧ x.deficit = s.ledger.deficitFlag ∧ x.withdrawn = s.ledger.withdrawn
    ∧ x.sand = decide (s.slide.sand.output ≠ .off) ∧ x.clamps = s.ledger.clamps
  links : ∀ m, x.links.get m = (s.ports.link.get m).state
  saturation : x.saturation = true ↔
    510 < s.loops.a.measured ∨ 510 < s.loops.b.measured ∨ 1021 < s.watch.pressure
    ∨ ∃ i, 1021 < (s.slide.axles.get i).creep ∨ 509 < (s.slide.axles.get i).decel ∨ (s.slide.axles.get i).decel < -513

/-- The state that a reset of either kind leaves, but for what a power-on reset loads and a warm restart keeps; `kept` are the deliveries that stay (R29, R30, R33, R73, R89, R117, R158, R176). -/
structure State.FromReset (s t : State) (kept : List Instr) : Prop where
  axles : ∀ i, t.monitor.axles.get i = ⟨.healthy, [], 0, [], 0, tachChannel t.matrix.table i⟩
  reference : t.monitor.fine = 0 ∧ t.monitor.reported = 0 ∧ t.monitor.degraded = false
    ∧ t.monitor.standstillTimer = 0 ∧ t.monitor.standstill = false
  slide : (∀ i, t.slide.axles.get i = ⟨.adhering, 0, 0, 0, 1000, t.store.live.correctionBudget, false, 0⟩)
    ∧ (∀ k, t.slide.trucks.get k = ⟨.none, 0, false⟩) ∧ t.slide.sand = ⟨false, .off, 0⟩
    ∧ t.slide.reference = 0
  loops : (∀ k, t.loops.get k = ⟨.starting, .lap, 0, .none, 0, 0, 0, false⟩) ∧ t.watch = ⟨.starting, [], 0, 0, false, false⟩
  links : ∀ m, t.ports.link.get m = ⟨.awaiting, 0⟩
  ports : (∀ p, (t.ports.port.get p).assembly = .hunt ∧ (t.ports.port.get p).replies = [])
    ∧ (∀ p, p ≠ .traction → (t.ports.port.get p).sending = none)
    ∧ t.ports.port.traction.sending =
      (if s.emergencyLine then some (EffortOrder.frame ⟨⟨0, 0, 0, 0, 0, 0⟩, .emergency⟩) else none)
    ∧ t.ports.order = none ∧ t.ports.outstanding = none
  capability : (∀ i, t.ports.capability.axles.get i = ⟨0, 0⟩ ∧ t.ports.capability.cutOut.get i = false)
    ∧ t.ports.capability.hold = 0
  outputs : t.matrix.functions = ⟨false, false, false, false, s.emergencyLine, false, false⟩
    ∧ (∀ p : Fin 8, (t.matrix.pulses[p]).count = 0 ∧ (t.matrix.pulses[p]).latest = 0 ∧ (t.matrix.pulses[p]).total = 0)
    ∧ (∀ d : Fin 8, t.matrix.marks[d] = (t.matrix.ownedOutput d && decide (s.matrix.health[d] ≠ .ok)))
    ∧ t.matrix.health = s.matrix.health
  demands : (∀ g, t.arbiter.nonIdle g = true ↔ g = .s7 ∨ g = .s8 ∧ s.emergencyLine = true)
    ∧ (∀ g, (t.arbiter.entries.get g).posted = 0
      ∧ (t.arbiter.entries.get g).inForce = (if g = .s7 then t.store.live.restraintEffort
        else if g = .s8 ∧ s.emergencyLine = true then t.store.live.emergencyEffort else 0)
      ∧ (t.arbiter.entries.get g).stamp = (if t.arbiter.nonIdle g then t.time else 0))
    ∧ t.arbiter.governor = some (if s.emergencyLine then .s8 else .s7)
    ∧ t.arbiter.stack = (if s.emergencyLine then [.s7] else [])
    ∧ t.arbiter.emergencyRaisers = ⟨false, false, s.emergencyLine, false⟩ ∧ t.arbiter.lossRaisers = ⟨false, false⟩
  copies : t.arbiter.gateOpen = false ∧ t.arbiter.bail = false ∧ t.arbiter.direction = .neutral
    ∧ t.arbiter.standstill = false ∧ t.arbiter.pipePresent = false ∧ t.arbiter.lineAsserted = s.emergencyLine
    ∧ t.arbiter.healthyA = false ∧ t.arbiter.healthyB = false ∧ t.arbiter.healthyPipe = false
    ∧ t.arbiter.cabFresh = false ∧ t.arbiter.supervisionFresh = false
    ∧ t.arbiter.configValid = decide (t.store.state = .valid)
  laws : ArbiterInv t
  ledger : t.ledger = { Ledger.afterReset t.arbiter.record with
    lastReason := if s.emergencyLine then .emergency else .period }
  deliveries : ∃ faults, (∀ c, c ∈ faults ↔ ∃ d : Fin 8, c = .triggerArrival (.valveFault d) ∧ t.matrix.marks[d] = true)
    ∧ t.deliveries = kept ++ faults
      ++ (if s.emergencyLine then [.s8LeavesIdle, .triggerArrival (.emergencyAccepted .line)] else [])
  timers : t.timers = ⟨t.time, ⟨t.time, t.time⟩, t.time, t.time, t.time⟩
  conditions : t.restart = none ∧ t.nv.serviceWait = none ∧ t.powered = true
  outside : t.array = s.array ∧ t.pending = s.pending ∧ t.emergencyLine = s.emergencyLine ∧ t.restartLine = s.restartLine

/-- A warm restart of a cause has taken effect (R145, R158, R180, R189, R190). -/
structure State.Restarted (s t : State) (cause : ResetCause) : Prop where
  reset : s.FromReset t (s.deliveries.filter isTriggerDelivery)
  marked : t.lastReset = cause ∧ t.recorder.marker = some cause
  kept : t.store = s.store ∧ t.time = s.time ∧ t.monitor.distance = s.monitor.distance
    ∧ t.monitor.accumulator = s.monitor.accumulator
    ∧ t.matrix.table = s.matrix.table ∧ t.matrix.generalOut = s.matrix.generalOut
  recorder : t.recorder.ring = s.recorder.ring ∧ t.recorder.slots = s.recorder.slots
    ∧ t.recorder.nextSequence = s.recorder.nextSequence ∧ t.recorder.shown = s.recorder.shown
  buffers : ∀ b : Fin 2,
    ((s.recorder.buffers[b]).state = .free → t.recorder.buffers[b] = s.recorder.buffers[b])
    ∧ ((s.recorder.buffers[b]).state = .capturing ∨ (s.recorder.buffers[b]).state = .awaitingSeal →
      t.recorder.buffers[b] = { s.recorder.buffers[b] with
        state := (t.recorder.buffers[b]).state
        truncated := (s.recorder.buffers[b]).truncated || decide ((s.recorder.buffers[b]).state = .capturing)
        autoLockDenied := (t.recorder.buffers[b]).autoLockDenied }
      ∧ ((t.recorder.buffers[b]).state = .awaitingSeal ∨ (t.recorder.buffers[b]).state = .sealing))
  quiet : (∀ b : Fin 2, (s.recorder.buffers[b]).state = .free) →
    t.recorder = { s.recorder with marker := some cause } ∧ t.nv = .empty

/-- The incident store at every moment (R131, R133, R139): the laws of its directory, the operation in flight that they rest on, and the slots of the array that the directory answers for. -/
structure IncidentInv (s : State) : Prop where
  directory : DirectoryLaws s.recorder
  sealing : ∀ i : Fin 12, (s.recorder.directory[i]).state = .sealing → ∃ b a, s.nv.inFlight = some (.sealing b i a false)
  sealFlies : ∀ (b : Fin 2) (i : Fin 12) a w, s.nv.inFlight = some (.sealing b i a w) →
    (s.recorder.directory[i]).lock = false ∧ (a = true → lockedCount s.recorder.directory < maxLocked)
    ∧ (s.recorder.directory[i]).state = (if w then .sealed else .sealing) ∧ (s.recorder.buffers[b]).state = .sealing
  sealWaits : ∀ b : Fin 2, s.nv.recorderWait = some b → (s.recorder.buffers[b]).state = .awaitingSeal
  locking : ∀ (i : Fin 12) n h, s.nv.inFlight = some (.service (.lock i n) h) →
    (s.recorder.directory[i]).state = .sealed ∧ lockedCount s.recorder.directory < maxLocked
  lockWaits : ∀ (i : Fin 12) n, s.nv.serviceWait = some (.lock i n) →
    (s.recorder.directory[i]).state = .sealed ∨ (s.recorder.directory[i]).state = .sealing
  erasing : ∀ (i : Fin 12) n, s.nv.inFlight = some (.service (.erase i n) true) →
    (s.array.slots[i]).field 0 1 = 0
  array : s.powered = true → ∀ i : Fin 12, ((s.array.slots[i]).scan).lock = true → (s.recorder.directory[i]).lock = true
  stored : lockedCount (scanSlots s.array.slots) ≤ maxLocked

end Sys2Proof.Machine
end

