-- ==== Sys2Proof/Certificates/Slice0/Obligations.lean ====
section
/-! DEFINITION. The statements about the part: what each command does, the laws that every step keeps, and the frames of the links. -/

open Sys2Proof Sys2Proof.Machine

/-! ### The machine -/

/-- One step runs the command at the front of the queue on the state with the queue's rest. -/
def Obligations.StepRunsFrontCommand : Prop :=
  ∀ (c : Instr) (rest : List Instr) (s : State),
    s.pending = c :: rest → step s = exec c { s with pending := rest }

/-- DESIGN CHOICE (log 1, log 3): with no command waiting, a step takes the oldest delivery between the blocks; with none, a part that has power counts one millisecond of its time base, and a part without power idles. -/
def Obligations.EmptyQueueTakesDeliveryOrTick : Prop :=
  ∀ s : State, s.pending = [] →
    (∀ c ds, s.deliveries = c :: ds → step s = exec c s)
    ∧ (s.deliveries = [] → s.powered = true → step s = .next { s with time := s.time + 1 })
    ∧ (s.deliveries = [] → s.powered = false → step s = .next s)

/-- DESIGN CHOICE (log 7): without power no command but a power-on reset changes anything besides the pins, the drivers' loads, and the deliveries that it takes with it. -/
def Obligations.NoPowerNoEffect : Prop :=
  ∀ (c : Instr) (s : State), s.powered = false → c ≠ .powerOnReset →
    ∃ t, exec c s = .next t
      ∧ (t.deliveries = s.deliveries ∨ t.deliveries = s.deliveries.erase c)
      ∧ t = { s with
          deliveries := t.deliveries
          emergencyLine := t.emergencyLine
          restartLine := t.restartLine
          matrix := { s.matrix with health := t.matrix.health } }

/-! ### Frames on the links -/

/-- A well-formed report or request is sent as one frame, and the frame, received at its port, is that report or request. That a READ CHANNEL brings the loop currents of its moment, and its bare frame the latest ones, is the model's choice (log 22). -/
def Obligations.FramesRoundTrip : Prop :=
  ∀ (c : Instr) (p : PortId) (kind : Byte) (payload : List Byte) (loops : LoopCurrents),
    c.wellFormed = true → encodeFrame c = some (p, kind, payload) →
    (∀ ch ls, c = .readChannel ch ls → ls = loops) →
    decodeFrame loops p kind payload = some c ∧ payload.length ≤ 120

/-- R161: what becomes of a frame that is no accepted report or request of its port, by its steps in their order; a frame that is one is that report or request, and one with more than 120 payload bytes is never received (R159). That such a command changes nothing, that an UNKNOWN_KIND whose frame its port accepts is that report or request, and the currents that a READ CHANNEL then takes, are the model's choices (logs 33, 22). -/
def Obligations.ReceivedFrameIsJudged : Prop :=
  ∀ (p : PortId) (kind : Byte) (payload : List Byte) (s : State), s.powered = true →
    (120 < payload.length → exec (.unknownKind p kind payload) s = .next s)
    ∧ (payload.length ≤ 120 → framed p kind payload.length = false →
        (kind.toNat < 16 ∨ 4 ≤ s.ports.waiting p →
          exec (.unknownKind p kind payload) s = .next (s.received p))
        ∧ (16 ≤ kind.toNat → s.ports.waiting p < 4 →
          ∃ t, exec (.unknownKind p kind payload) s = .next t
            ∧ (s.received p).Replied t p
                (replyFrame kind
                  (if requestLength kind = none then .unknownKind
                   else if accepts p kind = false then .wrongPort else .badLength) [])))
    ∧ (payload.length ≤ 120 → ∀ c, decodeFrame s.matrix.loops p kind payload = some c →
        exec (.unknownKind p kind payload) s = exec c s)

/-- R161, R168: a request of its port that is not taken. Without room for a reply it changes nothing but the assembly and the supervision link; on the service port, while a deferred reply is outstanding, it is answered BUSY and changes nothing else. A READ CHANNEL brings the loop currents of its moment with it, and they are those of the state also where it is not taken: the model's choice (log 22). -/
def Obligations.RequestNotTaken : Prop :=
  ∀ (c : Instr) (p : PortId) (kind : Byte) (payload : List Byte) (s : State), s.powered = true →
    c.wellFormed = true → encodeFrame c = some (p, kind, payload) → 16 ≤ kind.toNat →
    ∃ s' t, (s' = s ∨ ∃ ch loops, c = .readChannel ch loops ∧ s' = s.withLoops loops) ∧ exec c s = .next t
      ∧ (4 ≤ s.ports.waiting p → t = s'.received p)
      ∧ (s.ports.waiting p < 4 → p = .service → s.ports.outstanding.isSome = true →
          (s'.received p).Replied t p (replyFrame kind .busy []))

/-- R160, R161 step 1, R170, R173: an ALIVE does what every frame received at the supervision port does, and nothing more: the assembly hunts, the link is FRESH from now, and a link that was not FRESH delivers the change to the arbiter. -/
def Obligations.AliveRefreshesTheLink : Prop :=
  ∀ s : State, s.powered = true →
    ∃ t, exec .alive s = .next t ∧ t = s.received .supervision
      ∧ LinkRefreshed .supervision
          { s with ports := { s.ports with
              port := { s.ports.port with supervision := { s.ports.port.supervision with assembly := .hunt } } } } t

/-! ### The cab port -/

/-- R9, R10, R11, R12, R17, R24, R35, R164: a CAB DEMAND taken. The link is refreshed first; in one event of the arbiter the gate, the three handle posts, the emergency flag, bail-off, direction and acknowledgement are taken; the reply is OK with the STATUS data of the state reached. -/
def Obligations.CabDemandTaken : Prop :=
  ∀ (dynamic independent automatic : Word16) (flags : Byte) (s : State), s.ready .cab → ArbiterInv s →
    ∃ l u t, exec (.cabDemand dynamic independent automatic flags) s = .next t
      ∧ LinkRefreshed .cab (s.received .cab) l
      ∧ ArbiterReports l u
      ∧ u.arbiter.gateOpen = flags.getLsbD 7
      ∧ u.arbiter.bail = flags.getLsbD 5
      ∧ u.arbiter.direction = (if flags.getLsbD 1 = flags.getLsbD 0 then .neutral
          else if flags.getLsbD 0 then .forward else .reverse)
      ∧ u.arbiter.emergencyRaisers =
          { l.arbiter.emergencyRaisers with cab := l.arbiter.emergencyRaisers.cab || flags.getLsbD 6 }
      ∧ u.arbiter.lossRaisers = (if flags.getLsbD 4 && l.arbiter.standstill then
          ⟨false, l.arbiter.lossRaisers.supervisionLost && !l.arbiter.supervisionFresh⟩ else l.arbiter.lossRaisers)
      ∧ (∀ g w, (g, w) = (.s0, dynamic) ∨ (g, w) = (.s1, independent) ∨ (g, w) = (.s3, automatic) →
          (u.arbiter.entries.get g).posted = min w.toNat 6000
          ∧ (u.arbiter.entries.get g).inForce =
              (if flags.getLsbD 7 then min w.toNat 6000 else max (l.arbiter.inForce g) (min w.toNat 6000)))
      ∧ Arbiter.Follows s.store.live s.time [.s0, .s1, .s3, .s6, .s8] l.arbiter u.arbiter
      ∧ Arbiter.Rest
          { l.arbiter with
            gateOpen := u.arbiter.gateOpen, bail := u.arbiter.bail, direction := u.arbiter.direction
            emergencyRaisers := u.arbiter.emergencyRaisers, lossRaisers := u.arbiter.lossRaisers } u.arbiter
      ∧ State.Replied
          { u with ledger := { u.ledger with pendingInput := u.ledger.pendingInput
              || (6000 < dynamic.toNat || 6000 < independent.toNat || 6000 < automatic.toNat) } }
          t .cab
          (replyFrame kindCabDemand .ok
            (statusData (6000 < dynamic.toNat || 6000 < independent.toNat || 6000 < automatic.toNat) t))

/-- R21: a RELEASE EMERGENCY is answered NOT_RAISED, TOO_EARLY or OK, and OK alone removes the requesting port's raiser. The two other ports answer WRONG_PORT (R161). -/
def Obligations.ReleaseEmergencyAnswered : Prop :=
  ∀ (p : PortId) (s : State), s.ready p → ArbiterInv s →
    ∃ t, exec (.releaseEmergency p) s = .next t
      ∧ (p = .traction ∨ p = .service → (s.received p).Replied t p (replyFrame kindReleaseEmergency .wrongPort []))
      ∧ ∀ raiser, (p = .cab ∧ raiser = .cab) ∨ (p = .supervision ∧ raiser = .supervision) →
        (s.arbiter.emergencyRaisers.has raiser = false →
          (s.received p).Replied t p (replyFrame kindReleaseEmergency .notRaised []))
        ∧ (s.arbiter.emergencyRaisers.has raiser = true →
            (s.arbiter.standstill = false ∨ s.time < s.arbiter.entries.s8.stamp + s.store.live.emergencyHoldMs) →
          (s.received p).Replied t p (replyFrame kindReleaseEmergency .tooEarly []))
        ∧ (s.arbiter.emergencyRaisers.has raiser = true → s.arbiter.standstill = true →
            s.arbiter.entries.s8.stamp + s.store.live.emergencyHoldMs ≤ s.time →
          ∃ u, ArbiterReports (s.received p) u
            ∧ Arbiter.Follows s.store.live s.time [.s8] (s.received p).arbiter u.arbiter
            ∧ Arbiter.Rest { (s.received p).arbiter with
                emergencyRaisers := s.arbiter.emergencyRaisers.remove raiser } u.arbiter
            ∧ u.Replied t p (replyFrame kindReleaseEmergency .ok []))

/-- R166, R175, R178, section 8.9: every port answers a LEDGER QUERY at once with the ledger summary of the state in which it takes the query: 125 bytes, with the authority, the governor's stamp, the demands, each axle's command and limit, and each truck's air force and pressure target at their places. Demands and authority are the ledger's, the stamp and the stack the demand table's: the model's reading (log 24). -/
def Obligations.LedgerQueryAnswered : Prop :=
  (∀ (p : PortId) (s : State), s.ready p →
    ∃ t, exec (.ledgerQuery p) s = .next t
      ∧ (s.received p).Replied t p (replyFrame kindLedgerQuery .ok (ledgerSummary (s.received p))))
  ∧ (∀ s : State, (ledgerSummary s).length = 125
      ∧ numberAt (ledgerSummary s) 0 1 = s.ledger.demand.authority % 256
      ∧ numberAt (ledgerSummary s) 2 4 = governorStamp s.arbiter % 4294967296
      ∧ numberAt (ledgerSummary s) 12 2 = s.ledger.demand.blended % 65536
      ∧ numberAt (ledgerSummary s) 14 2 = s.ledger.demand.airFloor % 65536
      ∧ numberAt (ledgerSummary s) 24 2 = s.ledger.deficit % 65536
      ∧ (∀ i : Axle, numberAt (ledgerSummary s) (31 + 12 * (i.number - 1)) 2 = s.ledger.cmd.get i % 65536
        ∧ numberAt (ledgerSummary s) (37 + 12 * (i.number - 1)) 2 = (s.slide.axles.get i).lim % 65536)
      ∧ numberAt (ledgerSummary s) 103 2 = s.ledger.airForce.a % 65536
      ∧ numberAt (ledgerSummary s) 105 2 = s.ledger.pressure.a % 65536
      ∧ numberAt (ledgerSummary s) 112 2 = s.ledger.airForce.b % 65536
      ∧ numberAt (ledgerSummary s) 114 2 = s.ledger.pressure.b % 65536
      ∧ numberAt (ledgerSummary s) 121 2 = s.watch.pressure % 65536)

/-! ### The traction port -/

/-- R13, R35, R164: a CAPABILITY REPORT is kept as received, refreshes the traction link, and posts its hold effort to S2; it has no reply. -/
def Obligations.CapabilityReportTaken : Prop :=
  ∀ (axles : PerAxle AxleReport) (cutOut : Byte) (hold : Word16) (s : State), s.powered = true → ArbiterInv s →
    ∃ l u, exec (.capabilityReport axles cutOut hold) s
        = .next { u with ledger := { u.ledger with pendingInput := u.ledger.pendingInput || (6000 < hold.toNat) } }
      ∧ l = { s with ports := { s.ports with
          port := { s.ports.port with traction := { s.ports.port.traction with assembly := .hunt } }
          link := { s.ports.link with traction := ⟨.fresh, s.time⟩ }
          capability := l.ports.capability } }
      ∧ l.ports.capability.axles = axles ∧ l.ports.capability.hold = hold
      ∧ (∀ i, l.ports.capability.cutOut.get i = cutOut.getLsbD (i.number - 1))
      ∧ ArbiterReports l u
      ∧ u.arbiter.entries.s2.posted = min hold.toNat 6000 ∧ u.arbiter.entries.s2.inForce = min hold.toNat 6000
      ∧ (u.arbiter.nonIdle .s2 = true ↔ 0 < hold.toNat)
      ∧ Arbiter.Follows s.store.live s.time [.s2] s.arbiter u.arbiter
      ∧ Arbiter.Rest s.arbiter u.arbiter

/-- R54, R55: a WITHDRAW ELECTRIC sets every command to 0, hands over a WITHDRAW order and is answered OK; a RESUME ELECTRIC ends the withdrawal, sends no order and is answered OK. That the order goes before the reply at an idle port is the model's choice (log 41). -/
def Obligations.ElectricWithdrawnAndResumed : Prop :=
  ∀ s : State, s.ready .traction →
    (∃ t, exec .withdrawElectric s = .next t
      ∧ t.ledger = { s.ledger with withdrawn := true, cmd := ⟨0, 0, 0, 0, 0, 0⟩, lastReason := .withdraw }
      ∧ t.ports.line .traction = s.ports.port.traction.sending.toList
          ++ [EffortOrder.frame ⟨⟨0, 0, 0, 0, 0, 0⟩, .withdraw⟩] ++ s.ports.port.traction.replies
          ++ [replyFrame kindWithdrawElectric .ok []]
      ∧ t.ports.port.traction.assembly = .hunt
      ∧ t = { s with
          ledger := t.ledger
          ports := { s.ports with
            port := { s.ports.port with traction := t.ports.port.traction }, order := t.ports.order } })
    ∧ (∃ t, exec .resumeElectric s = .next t
      ∧ State.Replied { s.received .traction with ledger := { s.ledger with withdrawn := false } } t .traction
          (replyFrame kindResumeElectric .ok []))

/-! ### The supervision port -/

/-- R14, R15, R35, R165: an INTERVENE posts its effort to S4; a PENALTY raises S5, whose in-force effort only grows while it stands. Each is answered OK with its clamp mark. -/
def Obligations.InterveneAndPenaltyTaken : Prop :=
  ∀ (effort : Word16) (s : State), s.ready .supervision → ArbiterInv s →
    (∃ u t, exec (.intervene effort) s = .next t
      ∧ ArbiterReports (s.received .supervision) u
      ∧ u.arbiter.entries.s4.posted = min effort.toNat 6000 ∧ u.arbiter.entries.s4.inForce = min effort.toNat 6000
      ∧ (u.arbiter.nonIdle .s4 = true ↔ 0 < effort.toNat)
      ∧ Arbiter.Follows s.store.live s.time [.s4] (s.received .supervision).arbiter u.arbiter
      ∧ Arbiter.Rest (s.received .supervision).arbiter u.arbiter
      ∧ State.Replied { u with ledger := { u.ledger with pendingInput := u.ledger.pendingInput || (6000 < effort.toNat) } }
          t .supervision (replyFrame kindIntervene .ok [if 6000 < effort.toNat then 1 else 0]))
    ∧ (∃ u t, exec (.penalty effort) s = .next t
      ∧ ArbiterReports (s.received .supervision) u
      ∧ u.arbiter.entries.s5.posted = min effort.toNat 6000
      ∧ u.arbiter.entries.s5.inForce = (if s.arbiter.nonIdle .s5
          then max (s.arbiter.inForce .s5) (min effort.toNat 6000) else min effort.toNat 6000)
      ∧ u.arbiter.nonIdle .s5 = true
      ∧ Arbiter.Follows s.store.live s.time [.s5] (s.received .supervision).arbiter u.arbiter
      ∧ Arbiter.Rest { (s.received .supervision).arbiter with penaltyRaised := true } u.arbiter
      ∧ State.Replied { u with ledger := { u.ledger with pendingInput := u.ledger.pendingInput || (6000 < effort.toNat) } }
          t .supervision (replyFrame kindPenalty .ok [if 6000 < effort.toNat then 1 else 0]))

/-- R16: a RELEASE PENALTY is answered NOT_RAISED, TOO_EARLY or OK by its three rows, and OK alone brings S5 to IDLE. -/
def Obligations.ReleasePenaltyAnswered : Prop :=
  ∀ s : State, s.ready .supervision → ArbiterInv s →
    ∃ t, exec .releasePenalty s = .next t
      ∧ (s.arbiter.nonIdle .s5 = false →
          (s.received .supervision).Replied t .supervision (replyFrame kindReleasePenalty .notRaised []))
      ∧ (s.arbiter.nonIdle .s5 = true → s.arbiter.standstill = false →
          (s.received .supervision).Replied t .supervision (replyFrame kindReleasePenalty .tooEarly []))
      ∧ (s.arbiter.nonIdle .s5 = true → s.arbiter.standstill = true →
          ∃ u, ArbiterReports (s.received .supervision) u
            ∧ u.arbiter.nonIdle .s5 = false
            ∧ u.arbiter.entries.s5.posted = 0 ∧ u.arbiter.entries.s5.inForce = 0
            ∧ Arbiter.Follows s.store.live s.time [.s5] (s.received .supervision).arbiter u.arbiter
            ∧ Arbiter.Rest { (s.received .supervision).arbiter with penaltyRaised := false } u.arbiter
            ∧ u.Replied t .supervision (replyFrame kindReleasePenalty .ok []))

/-- R17, R165: an EMERGENCY adds the raiser SUPERVISION, so that S8 is non-idle, and a FREEZE delivers its trigger with the tag it carries; each is answered OK. -/
def Obligations.EmergencyAndFreezeTaken : Prop :=
  ∀ (tag : Word16) (s : State), s.ready .supervision →
    (ArbiterInv s → ∃ u t, exec .emergency s = .next t
      ∧ ArbiterReports (s.received .supervision) u
      ∧ u.arbiter.nonIdle .s8 = true
      ∧ Arbiter.Follows s.store.live s.time [.s8] (s.received .supervision).arbiter u.arbiter
      ∧ Arbiter.Rest { (s.received .supervision).arbiter with
          emergencyRaisers := { s.arbiter.emergencyRaisers with supervision := true } } u.arbiter
      ∧ u.Replied t .supervision (replyFrame kindEmergency .ok []))
    ∧ (∃ t, exec (.freeze tag) s = .next t
      ∧ State.Replied
          { s.received .supervision with
            deliveries := (s.received .supervision).deliveries ++ [.triggerArrival (.freeze tag)] }
          t .supervision (replyFrame kindFreeze .ok []))

/-! ### The service port: configuration, channels and incidents -/

/-- R181, R185: the 21 bytes of an IDENTIFY reply; and a READ CONFIG of a code in the table is answered OK with the live value in four bytes, of any other code RANGE. -/
def Obligations.IdentityAndParametersRead : Prop :=
  (∀ s : State, s.ready .service →
     ∃ t data, exec .identify s = .next t
       ∧ (s.received .service).Replied t .service (replyFrame kindIdentify .ok data)
       ∧ data.length = 21
       ∧ data.take 7 = [0x4A, 0x46, 0x2D, 0x36, 0x34, 0x30, 0x43]
       ∧ numberAt data 7 1 = (if s.store.state = .valid then 0 else 1)
       ∧ numberAt data 8 4 = s.store.sequence.toNat
       ∧ numberAt data 12 1 = (match s.lastReset with | .powerOn => 1 | .restartLine => 2 | .serviceRestart => 3)
       ∧ (s.time < 4294967296 → numberAt data 13 4 = s.time)
       ∧ numberAt data 17 4 = s.monitor.distance.toNat)
  ∧ (∀ (code : Byte) (s : State), s.ready .service →
       ∃ t, exec (.readConfig code) s = .next t
         ∧ ((∀ row, row ∈ paramTable → row.code ≠ code.toNat) →
             (s.received .service).Replied t .service (replyFrame kindReadConfig .range []))
         ∧ (∀ row, row ∈ paramTable → row.code = code.toNat →
             (s.received .service).Replied t .service
               (replyFrame kindReadConfig .ok (four (s.store.live.get row.param)))))

/-- R182: the rows of a WRITE CONFIG, and those of a CONFIRM CONFIG. -/
def Obligations.ConfigurationWritesJudged : Prop :=
  ∀ (code : Byte) (value : Word32) (s : State), s.ready .service →
    (∃ t, exec (.writeConfig code value) s = .next t
      ∧ ((∀ row, row ∈ paramTable → row.code = code.toNat → value.toNat < row.lo ∨ row.hi < value.toNat) →
          (s.received .service).Replied t .service (replyFrame kindWriteConfig .range []))
      ∧ (∀ row, row ∈ paramTable → row.code = code.toNat → row.lo ≤ value.toNat → value.toNat ≤ row.hi →
          (s.monitor.standstill = false →
            (s.received .service).Replied t .service (replyFrame kindWriteConfig .notStandstill []))
          ∧ (s.monitor.standstill = true → (s.store.live.put row.param value.toNat).crossOk = false →
            (s.received .service).Replied t .service (replyFrame kindWriteConfig .inconsistent []))
          ∧ (s.monitor.standstill = true → (s.store.live.put row.param value.toNat).crossOk = true →
            (s.received .service).Placed t kindWriteConfig (.configStore (some (row.param, value.toNat))))))
    ∧ (∃ t, exec .confirmConfig s = .next t
      ∧ (s.monitor.standstill = false →
          (s.received .service).Replied t .service (replyFrame kindConfirmConfig .notStandstill []))
      ∧ (s.monitor.standstill = true → (s.received .service).Placed t kindConfirmConfig (.configStore none)))

/-- R153, R154: a READ CHANNEL of a driver, a pulse channel or an analog channel, and of a number that names no channel. The loop currents come with the command, and the health of a pulse channel is that of its latest window: the model's choices (logs 22, 46). -/
def Obligations.ReadChannelAnswered : Prop :=
  ∀ (channel : Byte) (loops : LoopCurrents) (s : State), s.ready .service →
    ∃ t data result, exec (.readChannel channel loops) s = .next t
      ∧ State.Replied ((s.withLoops loops).received .service) t .service (replyFrame kindReadChannel result data)
      ∧ (22 ≤ channel.toNat → result = .range ∧ data = [])
      ∧ (∀ d : Fin 8, channel.toNat = d.val → result = .ok
          ∧ data = [0, byteOf (s.matrix.table[driverChannel d]).code,
              byteOf ((if s.matrix.driven d then 128 else 0) + (if s.matrix.marks[d] then 64 else 0)
                + (match s.matrix.health[d] with | .ok => 0 | .openLoad => 1 | .shortLoad => 2))])
      ∧ (∀ p : Fin 8, channel.toNat = p.val + 8 → result = .ok
          ∧ data = [1, byteOf (s.matrix.table[(⟨p.val + 8, by omega⟩ : Fin 22)]).code,
                byteOf (s.matrix.pulses[p]).latest] ++ bytes16 (s.matrix.pulses[p]).total
              ++ [if (s.matrix.pulses[p]).healthy then 0 else 1])
      ∧ (∀ a : Fin 6, channel.toNat = a.val + 16 → result = .ok
          ∧ data = [2, byteOf (s.matrix.table[(⟨a.val + 16, by omega⟩ : Fin 22)]).code] ++
              (if 3600 ≤ loops[a] ∧ loops[a] ≤ 21000 then two (min ((loops[a] - 4000) * 1000 / 16000) 1000) ++ [0]
               else [0, 0, 1]))

/-- R155, R156: the rows of an ASSIGN CHANNEL, in their order, and those of a DRIVE CHANNEL, whose OK alone sets the channel's general output state. -/
def Obligations.ChannelRequestsJudged : Prop :=
  (∀ (channel function : Byte) (s : State), s.ready .service →
     ∃ t, exec (.assignChannel channel function) s = .next t
       ∧ (22 ≤ channel.toNat ∨ 19 ≤ function.toNat →
           (s.received .service).Replied t .service (replyFrame kindAssignChannel .range []))
       ∧ (∀ (ch : Fin 22) (f : ChanFn), channel.toNat = ch.val → function.toNat = f.code →
           (s.monitor.standstill = false →
             (s.received .service).Replied t .service (replyFrame kindAssignChannel .notStandstill []))
           ∧ (s.monitor.standstill = true → f.allowedOn (chanKind ch) = false →
             (s.received .service).Replied t .service (replyFrame kindAssignChannel .kindMismatch []))
           ∧ (s.monitor.standstill = true → f.allowedOn (chanKind ch) = true →
               (s.matrix.table[ch]).required = true → s.matrix.table[ch] ≠ f →
             (s.received .service).Replied t .service (replyFrame kindAssignChannel .required []))
           ∧ (s.monitor.standstill = true → f.allowedOn (chanKind ch) = true → s.matrix.table[ch] = f →
             (s.received .service).Replied t .service (replyFrame kindAssignChannel .ok []))
           ∧ (s.monitor.standstill = true → f.allowedOn (chanKind ch) = true →
               (s.matrix.table[ch]).required = false → s.matrix.table[ch] ≠ f →
             (s.received .service).Placed t kindAssignChannel (.assignStore ch f))))
  ∧ (∀ (channel state : Byte) (s : State), s.ready .service →
       ∃ t, exec (.driveChannel channel state) s = .next t
         ∧ (22 ≤ channel.toNat ∨ 1 < state.toNat →
             (s.received .service).Replied t .service (replyFrame kindDriveChannel .range []))
         ∧ (8 ≤ channel.toNat → channel.toNat < 22 → state.toNat ≤ 1 →
             (s.received .service).Replied t .service (replyFrame kindDriveChannel .kindMismatch []))
         ∧ (∀ d : Fin 8, channel.toNat = d.val → state.toNat ≤ 1 →
             ((s.matrix.table[driverChannel d]).owned = true →
               (s.received .service).Replied t .service (replyFrame kindDriveChannel .owned []))
             ∧ ((s.matrix.table[driverChannel d]).owned = false → s.matrix.table[driverChannel d] ≠ .generalOut →
               (s.received .service).Replied t .service (replyFrame kindDriveChannel .kindMismatch []))
             ∧ (s.matrix.table[driverChannel d] = .generalOut →
               State.Replied
                 { s.received .service with
                   matrix := { s.matrix with generalOut := s.matrix.generalOut.set d (state.toNat = 1) } }
                 t .service (replyFrame kindDriveChannel .ok [])
               ∧ t.matrix.driven d = decide (state.toNat = 1))))

/-- R136, R137: a LIST INCIDENTS is answered with six bytes for each slot in slot order, then the number of locked slots and the next sequence number; a READ INCIDENT is answered by its rows, with the 58 bytes of part 0, state and lock from the directory and the rest from the stored header, and the samples 4(n − 1) to 4n − 1 of part n of a slot that is not EMPTY. That a later part of a slot erased since its part 0 was read is CHANGED, and the field that remembers it, are the model's reading (log 39); that the samples behind a pre-sample count limited to 50 follow without a gap is its choice (log 45). The bytes of an EMPTY slot's part 0 that R137 does not name are those the header holds (log 8). -/
def Obligations.IncidentsListedAndRead : Prop :=
  (∀ s : State, s.ready .service →
     ∃ t data, exec .listIncidents s = .next t
       ∧ (s.received .service).Replied t .service (replyFrame kindListIncidents .ok data)
       ∧ data.length = 77
       ∧ (∀ i : Fin 12,
           numberAt data (6 * i.val) 1 = (if (s.recorder.directory[i]).lock then 128 else 0)
               + (s.recorder.directory[i]).state.code
           ∧ numberAt data (6 * i.val + 1) 4 = (s.recorder.directory[i]).sequence % 4294967296
           ∧ numberAt data (6 * i.val + 5) 1 = (s.recorder.directory[i]).kind % 256)
       ∧ numberAt data 72 1 = lockedCount s.recorder.directory
       ∧ numberAt data 73 4 = s.recorder.nextSequence % 4294967296)
  ∧ (∀ (slot : Byte) (expected : Word32) (part : Byte) (s : State), s.ready .service →
       ∃ t, exec (.readIncident slot expected part) s = .next t
         ∧ (12 ≤ slot.toNat → (s.received .service).Replied t .service (replyFrame kindReadIncident .range []))
         ∧ (∀ i : Fin 12, slot.toNat = i.val →
             ((s.recorder.directory[i]).state = .sealing →
               (s.received .service).Replied t .service (replyFrame kindReadIncident .busy []))
             ∧ ((s.recorder.directory[i]).state ≠ .sealing → expected.toNat ≠ 0 →
                 expected.toNat ≠ (s.recorder.directory[i]).sequence →
               (s.received .service).Replied t .service (replyFrame kindReadIncident .changed []))
             ∧ ((s.recorder.directory[i]).state = .empty → expected.toNat ≠ 0 → part.toNat ≠ 0 →
                 expected.toNat = (s.recorder.directory[i]).sequence →
                 s.recorder.shown[i] = (s.recorder.directory[i]).sequence →
               (s.received .service).Replied t .service (replyFrame kindReadIncident .changed []))
             ∧ ((s.recorder.directory[i]).state ≠ .sealing →
                 (expected.toNat = 0 ∨ expected.toNat = (s.recorder.directory[i]).sequence
                   ∧ (part.toNat = 0 ∨ (s.recorder.directory[i]).state ≠ .empty
                     ∨ s.recorder.shown[i] ≠ (s.recorder.directory[i]).sequence)) →
               ∃ data, State.Replied
                   { s.received .service with
                     recorder := { s.recorder with
                       shown := if part.toNat ≠ 0 then s.recorder.shown
                         else s.recorder.shown.set i (if (s.recorder.directory[i]).state = .empty then 0
                           else (s.recorder.directory[i]).sequence) } }
                   t .service (replyFrame kindReadIncident .ok data)
                 ∧ data.take 2 = [slot, part]
                 ∧ (part.toNat = 0 → numberAt data 2 1 = (s.recorder.directory[i]).state.code
                     ∧ numberAt data 3 1 = (if (s.recorder.directory[i]).lock then 1 else 0))
                 ∧ (part.toNat = 0 → (s.array.slots[i]).header.length = 58 →
                     data.length = 60
                     ∧ (data.drop 9).take 12 = ((s.array.slots[i]).header.drop 7).take 12
                     ∧ (data.drop 52).take 2 = ((s.array.slots[i]).header.drop 50).take 2
                     ∧ numberAt data 55 1 = numberAt (s.array.slots[i]).header 53 1
                     ∧ data.drop 57 = (s.array.slots[i]).header.drop 55
                     ∧ ((s.recorder.directory[i]).state = .empty →
                         numberAt data 4 4 = (s.recorder.directory[i]).sequence % 4294967296
                         ∧ numberAt data 8 1 = (s.recorder.directory[i]).kind % 256
                         ∧ (data.drop 21).take 31 = List.replicate 31 0
                         ∧ numberAt data 54 1 = 0 ∧ numberAt data 56 1 = 0)
                     ∧ ((s.recorder.directory[i]).state ≠ .empty →
                         (data.drop 4).take 50 = ((s.array.slots[i]).header.drop 2).take 50
                         ∧ numberAt data 54 1 = min (numberAt (s.array.slots[i]).header 52 1) 50
                         ∧ numberAt data 56 1 = min (numberAt (s.array.slots[i]).header 54 1) 100))
                 ∧ (part.toNat ≠ 0 → (s.recorder.directory[i]).state = .empty → data = [slot, part])
                 ∧ (part.toNat ≠ 0 → (s.recorder.directory[i]).state ≠ .empty →
                     data = slot :: part ::
                       (((s.array.slots[i]).body.drop (35 * (4 * (part.toNat - 1)))).take
                         (35 * min 4 (min (numberAt (s.array.slots[i]).header 52 1) 50
                           + min (numberAt (s.array.slots[i]).header 54 1) 100 - 4 * (part.toNat - 1))))))))

/-- R138, R140, R141: the rows of LOCK, UNLOCK and ERASE INCIDENT, in their order. -/
def Obligations.SlotRequestsJudged : Prop :=
  ∀ (slot : Byte) (s : State), s.ready .service →
    (∃ t, exec (.lockIncident slot) s = .next t
      ∧ (12 ≤ slot.toNat → (s.received .service).Replied t .service (replyFrame kindLockIncident .range []))
      ∧ ∀ i : Fin 12, slot.toNat = i.val →
        ((s.recorder.directory[i]).state ≠ .sealed →
          (s.received .service).Replied t .service (replyFrame kindLockIncident .notSealed []))
        ∧ ((s.recorder.directory[i]).state = .sealed → (s.recorder.directory[i]).lock = true →
          (s.received .service).Replied t .service (replyFrame kindLockIncident .ok [1]))
        ∧ ((s.recorder.directory[i]).state = .sealed → (s.recorder.directory[i]).lock = false →
            8 ≤ lockedCount s.recorder.directory →
          (s.received .service).Replied t .service (replyFrame kindLockIncident .lockLimit []))
        ∧ ((s.recorder.directory[i]).state = .sealed → (s.recorder.directory[i]).lock = false →
            lockedCount s.recorder.directory < 8 →
          (s.received .service).Placed t kindLockIncident (.lock i (s.recorder.directory[i]).sequence)))
    ∧ (∃ t, exec (.unlockIncident slot) s = .next t
      ∧ (12 ≤ slot.toNat → (s.received .service).Replied t .service (replyFrame kindUnlockIncident .range []))
      ∧ ∀ i : Fin 12, slot.toNat = i.val →
        (s.monitor.standstill = false →
          (s.received .service).Replied t .service (replyFrame kindUnlockIncident .notStandstill []))
        ∧ (s.monitor.standstill = true → (s.recorder.directory[i]).lock = false →
          (s.received .service).Replied t .service (replyFrame kindUnlockIncident .ok []))
        ∧ (s.monitor.standstill = true → (s.recorder.directory[i]).lock = true →
          (s.received .service).Placed t kindUnlockIncident (.unlock i)))
    ∧ (∃ t, exec (.eraseIncident slot) s = .next t
      ∧ (12 ≤ slot.toNat → (s.received .service).Replied t .service (replyFrame kindEraseIncident .range []))
      ∧ ∀ i : Fin 12, slot.toNat = i.val →
        (s.monitor.standstill = false →
          (s.received .service).Replied t .service (replyFrame kindEraseIncident .notStandstill []))
        ∧ (s.monitor.standstill = true →
          ((s.recorder.directory[i]).state = .sealing →
            (s.received .service).Replied t .service (replyFrame kindEraseIncident .busy []))
          ∧ ((s.recorder.directory[i]).state = .sealed → (s.recorder.directory[i]).lock = true →
            (s.received .service).Replied t .service (replyFrame kindEraseIncident .locked []))
          ∧ ((s.recorder.directory[i]).state = .empty →
            (s.received .service).Replied t .service (replyFrame kindEraseIncident .ok []))
          ∧ ((s.recorder.directory[i]).state = .damaged
              ∨ (s.recorder.directory[i]).state = .sealed ∧ (s.recorder.directory[i]).lock = false →
            (s.received .service).Placed t kindEraseIncident (.erase i (s.recorder.directory[i]).sequence))))

/-- R122, R123: a SET MATCH within every range writes its slot, ARMED or DISARMED by its enabled flag; any other is answered RANGE and changes nothing. -/
def Obligations.SetMatchJudged : Prop :=
  ∀ (slot enabled condition axle : Byte) (threshold : Word16) (s : State), s.ready .service →
    ∃ t, exec (.setMatch slot enabled condition axle threshold) s = .next t
      ∧ ((4 ≤ slot.toNat ∨ 1 < enabled.toNat ∨ 5 < condition.toNat
            ∨ (condition.toNat = 2 ∧ (axle.toNat < 1 ∨ 6 < axle.toNat))
            ∨ (condition.toNat ≤ 1 ∧ 1600 < threshold.toNat)
            ∨ (condition.toNat = 2 ∨ condition.toNat = 3) ∧ 1000 < threshold.toNat
            ∨ (condition.toNat = 4 ∧ 6000 < threshold.toNat)
            ∨ (condition.toNat = 5 ∧ 7 < threshold.toNat)) →
          (s.received .service).Replied t .service (replyFrame kindSetMatch .range []))
      ∧ (∀ (i : Fin 4) (c : MatchCondition), slot.toNat = i.val → enabled.toNat ≤ 1 →
          (condition.toNat, c) ∈ [(0, .refAbove), (1, .refBelow), (2, .creepAbove), (3, .pipeBelow),
            (4, .deficitAbove), (5, MatchCondition.authorityAtLeast)] →
          (c = .creepAbove → 1 ≤ axle.toNat ∧ axle.toNat ≤ 6) → threshold.toNat ≤ c.top →
          State.Replied
            { s.received .service with
              recorder := { s.recorder with
                slots := s.recorder.slots.set i
                  ⟨decide (enabled.toNat = 1), c, axle, threshold.toNat,
                    if enabled.toNat = 1 then .armed else .disarmed⟩ } }
            t .service (replyFrame kindSetMatch .ok []))

/-- R188, R189: a RESTART request is refused while the locomotive moves. At standstill it is answered OK, and a restart is pending with its cause or with the cause of the call that it joins; it does not take effect before its reply has been transmitted. -/
def Obligations.RestartRequestJudged : Prop :=
  ∀ s : State, s.ready .service →
    ∃ t, exec .restart s = .next t
      ∧ (s.monitor.standstill = false →
          (s.received .service).Replied t .service (replyFrame kindRestart .notStandstill []))
      ∧ (s.monitor.standstill = true →
          State.Replied { s.received .service with restart := some (s.restart.getD .serviceRestart) } t .service
            (replyFrame kindRestart .ok []))

/-! ### The non-volatile array -/

/-- R2, R18, R26, R170, R182, R183, R186, R189, R190: a configuration store that completes. The live set takes the written value, the sequence advances, the state is VALID and the image holds them; the arbiter takes a change to VALID; a written hold or timeout is measured as its expiry would measure it; the reply is placed, and a restart that waited takes effect and loses it. The order inside the completion and the image's form are the model's (logs 31, 12). -/
def Obligations.ConfigurationStoreCompletes : Prop :=
  ∀ (w : Option (Param × Nat)) (h : Bool) (s : State), s.powered = true →
    s.nv.inFlight = some (.service (.configStore w) h) →
    ∃ u v t, exec .configurationStoreComplete s = .next t
      ∧ u.store = ⟨(match w with | none => s.store.live | some pv => s.store.live.put pv.1 pv.2), .valid,
          s.store.sequence + 1⟩
      ∧ ArbiterReports { s with store := u.store } u
      ∧ (ArbiterInv s →
          Arbiter.Follows u.store.live s.time [.s7] s.arbiter u.arbiter
          ∧ Arbiter.Rest { s.arbiter with
              configValid := s.arbiter.configValid || s.store.state = .defaulted
              restraintRaised := s.arbiter.restraintRaised
                && !(s.store.state = .defaulted && Arbiter.restraintMet { s.arbiter with configValid := true }) }
              u.arbiter)
      ∧ (∀ hold, w = some (.emergencyHoldMs, hold) → exec .emergencyHoldExpiry u = .next v)
      ∧ (∀ m timeout, w = some (timeoutParam m, timeout) → exec (.freshnessExpiry m) u = .next v)
      ∧ ((∀ hold, w ≠ some (.emergencyHoldMs, hold)) → (∀ m timeout, w ≠ some (timeoutParam m, timeout)) → v = u)
      ∧ t.store = u.store
      ∧ t.matrix.table = s.matrix.table
      ∧ t.array = ⟨⟨t.store.live, s.matrix.table, t.store.sequence, .valid, true⟩, s.array.slots⟩
      ∧ (s.restart = none → ∀ kind, s.ports.outstanding = some kind →
          t.ports.line .service = s.ports.line .service ++ [replyFrame kind .ok []] ∧ t.ports.outstanding = none)
      ∧ (s.nothingWaits →
          t = { v with array := t.array, nv := .empty, ports := t.ports }
          ∧ (s.ports.outstanding = none → t.ports = v.ports)
          ∧ ∀ kind, s.ports.outstanding = some kind →
            Ports.Queued { v.ports with outstanding := none } t.ports .service (replyFrame kind .ok []))
      ∧ (∀ cause, s.restart = some cause → s.ports.restartOwed = false → s.ports.outstanding ≠ some kindRestart →
          t.restart = none ∧ t.lastReset = cause ∧ t.ports.port.service = .afterReset ∧ t.ports.outstanding = none)

/-- R150, R151, R157, R182, R183: an assignment store that completes. The channel takes the function, a channel that held a function of one place becomes UNUSED, the general outputs and marks follow, the sequence advances and the configuration state stands, a VALVE_FAULT is delivered for each function-owned channel whose driver reports a fault and whose mark was clear, and the reply is placed. The image's form, and the ascending order of two such triggers, are the model's (logs 12, 28). -/
def Obligations.AssignmentStoreCompletes : Prop :=
  ∀ (ch : Fin 22) (f : ChanFn) (h : Bool) (s : State), s.powered = true →
    s.nv.inFlight = some (.service (.assignStore ch f) h) →
    ∃ t, exec .assignmentStoreComplete s = .next t
      ∧ t.matrix.table[ch] = f
      ∧ (∀ c : Fin 22, c ≠ ch → t.matrix.table[c] =
          if f.general = false ∧ s.matrix.table[c] = f then .unused else s.matrix.table[c])
      ∧ t.store = { s.store with sequence := s.store.sequence + 1 }
      ∧ t.array = ⟨⟨s.store.live, t.matrix.table, s.store.sequence + 1, s.store.state, true⟩, s.array.slots⟩
      ∧ (s.restart = none → ∀ kind, s.ports.outstanding = some kind →
          t.ports.line .service = s.ports.line .service ++ [replyFrame kind .ok []] ∧ t.ports.outstanding = none)
      ∧ (s.nothingWaits →
          (∀ d : Fin 8, t.matrix.generalOut[d] =
            if driverChannel d = ch ∧ (s.matrix.table[ch] = .generalOut ∨ f = .generalOut) then false
            else s.matrix.generalOut[d])
          ∧ (∀ d : Fin 8, t.matrix.marks[d] =
            (t.matrix.ownedOutput d && (s.matrix.marks[d] || !(decide (s.matrix.health[d] = .ok)))))
          ∧ t.deliveries = s.deliveries ++
              (([0, 1, 2, 3, 4, 5, 6, 7] : List (Fin 8)).filter fun d =>
                t.matrix.ownedOutput d && !s.matrix.marks[d] && decide (s.matrix.health[d] ≠ .ok)).map
                (fun d => Instr.triggerArrival (.valveFault d))
          ∧ s.ports.Answered t.ports .ok []
          ∧ t = { s with
              store := t.store, array := t.array, nv := .empty, ports := t.ports, deliveries := t.deliveries
              matrix := { s.matrix with
                table := t.matrix.table, generalOut := t.matrix.generalOut, marks := t.matrix.marks } })

/-- R139, R140: a lock write or an unlock write that completes. The header's lock byte and the directory's lock flag are written, and the reply is OK, with the lock state before a lock. -/
def Obligations.LockWritesComplete : Prop :=
  ∀ (slot : Fin 12) (n : Nat) (h lock : Bool) (c : Instr) (op : ServiceOp) (data : List Byte) (s : State),
    s.powered = true →
    (c, op, lock, data) = (.lockWriteComplete, .lock slot n, true, [0])
      ∨ (c, op, lock, data) = (.unlockWriteComplete, .unlock slot, false, []) →
    s.nv.inFlight = some (.service op h) →
    ∃ t, exec c s = .next t
      ∧ t.array = { s.array with
          slots := s.array.slots.set slot
            ⟨(s.array.slots[slot]).header.set 1 (if lock then 1 else 0), (s.array.slots[slot]).body⟩ }
      ∧ (s.restart = none → ∀ kind, s.ports.outstanding = some kind →
          t.ports.line .service = s.ports.line .service ++ [replyFrame kind .ok data] ∧ t.ports.outstanding = none)
      ∧ (s.nothingWaits →
          s.ports.Answered t.ports .ok data
          ∧ t = { s with
            array := t.array, nv := .empty, ports := t.ports
            recorder := { s.recorder with
              directory := s.recorder.directory.set slot { s.recorder.directory[slot] with lock := lock } } })

/-- R142: the two reports of an erase, of a slot whose header is stored. Its header write makes the slot EMPTY and unlocked in array and directory, with the sequence number and the first trigger kind kept; its completion sends OK. A completion without the first report does that report's write too: the model's choice (log 15). The bytes that no rule states are free values (logs 8, 9). -/
def Obligations.EraseCompletes : Prop :=
  ∀ (slot : Fin 12) (n : Nat) (s : State), s.powered = true → (s.array.slots[slot]).header.length = 58 →
    (s.nv.inFlight = some (.service (.erase slot n) false) →
      ∃ t, exec .eraseHeaderWritten s = .next t
        ∧ (s.array.slots[slot]).Emptied t.array.slots[slot]
        ∧ t = { s with
            nv := { s.nv with inFlight := some (.service (.erase slot n) true) }
            array := { s.array with slots := s.array.slots.set slot t.array.slots[slot] }
            draws := t.draws
            recorder := { s.recorder with
              directory := s.recorder.directory.set slot
                ⟨.empty, false, (s.recorder.directory[slot]).sequence, (s.recorder.directory[slot]).kind⟩ } }
        ∧ (t.array.slots[slot]).body = (s.array.slots[slot]).body)
    ∧ (∀ headed : Bool, s.nv.inFlight = some (.service (.erase slot n) headed) →
      ∃ t, exec .eraseComplete s = .next t
        ∧ (s.restart = none → ∀ kind, s.ports.outstanding = some kind →
            t.ports.line .service = s.ports.line .service ++ [replyFrame kind .ok []] ∧ t.ports.outstanding = none)
        ∧ (headed = true → (t.array.slots[slot]).header = (s.array.slots[slot]).header)
        ∧ (headed = false → (s.array.slots[slot]).Emptied t.array.slots[slot])
        ∧ (s.nothingWaits →
            s.ports.Answered t.ports .ok []
            ∧ t = { s with
              nv := .empty, ports := t.ports, draws := t.draws
              array := { s.array with slots := s.array.slots.set slot t.array.slots[slot] }
              recorder := { s.recorder with
                directory := if headed then s.recorder.directory else s.recorder.directory.set slot
                  ⟨.empty, false, (s.recorder.directory[slot]).sequence, (s.recorder.directory[slot]).kind⟩ } }))

/-- R131, R132: the two reports of a seal. The slot's state becomes SEALED in array and directory; at the seal's completion the lock is set where auto-lock was decided, and the buffer is FREE. A completion without the first report does that report's write too: the model's choice (log 15). -/
def Obligations.SealCompletes : Prop :=
  ∀ (b : Fin 2) (slot : Fin 12) (autoLock written : Bool) (s : State), s.powered = true →
    s.nv.inFlight = some (.sealing b slot autoLock written) →
    (∃ t, exec .sealComplete s = .next t
      ∧ t.array = { s.array with slots := s.array.slots.set slot (sealedSlot s.recorder.buffers[b] .sealed autoLock) }
      ∧ (s.nothingWaits →
          t = { s with
            array := t.array, nv := .empty
            recorder := { s.recorder with
              buffers := s.recorder.buffers.set b Buffer.free
              directory := s.recorder.directory.set slot
                ⟨.sealed, autoLock, (s.recorder.buffers[b]).sequence, (s.recorder.buffers[b]).firstKind⟩ } }))
    ∧ (autoLock = true → written = false →
        exec .sealedStateWritten s = .next
          { s with
            nv := { s.nv with inFlight := some (.sealing b slot true true) }
            array := { s.array with slots := s.array.slots.set slot (sealedSlot s.recorder.buffers[b] .sealed false) }
            recorder := { s.recorder with
              directory := s.recorder.directory.set slot
                ⟨.sealed, false, (s.recorder.buffers[b]).sequence, (s.recorder.buffers[b]).firstKind⟩ } })

/-- R130, R131, R133, R186: the grant of a SEAL. Under the laws of the incident store, a slot is found and it is unlocked, by the three rules in their order; and a SEAL is granted before a service operation that waits. -/
def Obligations.SealIsGranted : Prop :=
  ∀ (b : Fin 2) (s : State), IncidentInv s →
    s.restart = none → s.nv.inFlight = none → s.nv.recorderWait = some b →
    ∃ slot : Fin 12, chooseSlot s.recorder.directory = some slot
      ∧ (s.recorder.directory[slot]).lock = false
      ∧ (∀ i : Fin 12, (s.recorder.directory[i]).state = .empty →
          (s.recorder.directory[slot]).state = .empty ∧ slot.val ≤ i.val)
      ∧ (s.recorder.directory[slot]).state ≠ .sealing
      ∧ ((s.recorder.directory[slot]).state = .damaged → ∀ i : Fin 12,
          (s.recorder.directory[i]).state = .damaged → slot.val ≤ i.val)
      ∧ ((s.recorder.directory[slot]).state = .sealed → ∀ i : Fin 12,
          (s.recorder.directory[i]).lock = false →
            (s.recorder.directory[i]).state = .sealed
            ∧ (s.recorder.directory[slot]).sequence ≤ (s.recorder.directory[i]).sequence)
      ∧ s.grant = { s with
          nv := { s.nv with
            recorderWait := none
            inFlight := some (.sealing b slot
              ((s.recorder.buffers[b]).entries.any (fun e => isEmergency e.trigger)
                && decide (lockedCount s.recorder.directory < 8)) false) }
          recorder := { s.recorder with
            buffers := s.recorder.buffers.set b
              { s.recorder.buffers[b] with
                state := .sealing
                autoLockDenied := (s.recorder.buffers[b]).autoLockDenied
                  || ((s.recorder.buffers[b]).entries.any (fun e => isEmergency e.trigger)
                    && decide (8 ≤ lockedCount s.recorder.directory)) }
            directory := s.recorder.directory.set slot
              ⟨.sealing, false, (s.recorder.buffers[b]).sequence, (s.recorder.buffers[b]).firstKind⟩ } }

/-! ### The line side of the ports -/

/-- R159, R160: characters that complete no frame move the port's assembly alone, and a gap brings it to HUNT; a framing error, a length above 120 and a CRC that differs discard what has come; the characters of one whole frame are that frame. The characters of a frame with at most 120 payload bytes, taken in HUNT, give that one frame and leave the assembly in HUNT. That a frame which the characters of either command complete is taken as received is the model's choice (log 33), and that a character with a framing error begins no frame in HUNT is its reading (log 40). -/
def Obligations.CharactersAssemble : Prop :=
  (∀ (kind : Byte) (payload : List Byte), payload.length ≤ 120 →
     Assembly.hunt.run ((wireBytes kind payload).map fun b => ⟨b, false⟩) = (.hunt, [⟨kind, payload⟩]))
  ∧ (∀ (p : PortId) (s : State), s.powered = true →
       (∀ chars, ((s.ports.port.get p).assembly.run chars).2 = [] →
         exec (.frameDiscarded p chars) s
             = .next { s with
                 ports := s.ports.withPort p
                   { s.ports.port.get p with assembly := ((s.ports.port.get p).assembly.run chars).1 } }
         ∧ exec (.intercharacterGapTimeout p chars) s
             = .next { s with ports := s.ports.withPort p { s.ports.port.get p with assembly := .hunt } })
       ∧ (∀ (c : LineChar) (a : Assembly) (f : Received),
           (s.ports.port.get p).assembly.feed c = (a, some f) →
           exec (.frameDiscarded p [c]) s = exec (.unknownKind p f.kind f.payload)
             { s with ports := s.ports.withPort p { s.ports.port.get p with assembly := a } })
       ∧ (∀ (cs ds : List LineChar) (t : State), exec (.frameDiscarded p cs) s = .next t →
           exec (.frameDiscarded p (cs ++ ds)) s = exec (.frameDiscarded p ds) t
           ∧ exec (.intercharacterGapTimeout p cs) s
             = .next { t with ports := t.ports.withPort p { t.ports.port.get p with assembly := .hunt } })
       ∧ (∀ (a : Assembly) (b : Byte), a.feed ⟨b, true⟩ = (.hunt, none))
       ∧ (∀ (kind b : Byte), 120 < b.toNat → (Assembly.length kind).feed ⟨b, false⟩ = (.hunt, none))
       ∧ (∀ (kind n hi lo : Byte) (got : List Byte), crc16 (kind :: n :: got) ≠ hi ++ lo →
           (Assembly.check kind n got (some hi)).feed ⟨lo, false⟩ = (.hunt, none))
       ∧ ((s.ports.port.get p).assembly = .hunt → ∀ (kind : Byte) (payload : List Byte), payload.length ≤ 120 →
           exec (.frameDiscarded p ((wireBytes kind payload).map fun b => ⟨b, false⟩)) s
             = exec (.unknownKind p kind payload) s))

/-- R163, R189: a transmission that ends. The frames of the port's line move up by one, and on the traction port a waiting order goes before a waiting reply; a restart that waited for its reply takes effect. That a frame at an idle port is in transmission at once, and that an end without a transmission changes nothing, are the model's (logs 26, 15). -/
def Obligations.TransmissionEndsNextBegins : Prop :=
  ∀ (p : PortId) (s : State), s.powered = true →
    ∃ t, exec (.transmissionEnds p) s = .next t
      ∧ (s.restart = none → (s.ports.port.get p).sending = none → t = s)
      ∧ (s.restart = none → ∀ f, (s.ports.port.get p).sending = some f →
          t.ports.line p = (s.ports.line p).tail
          ∧ (t.ports.port.get p).sending = (s.ports.line p).tail.head?
          ∧ (t.ports.port.get p).assembly = (s.ports.port.get p).assembly
          ∧ t = { s with ports := { s.ports with
              port := s.ports.port.set p (t.ports.port.get p), order := t.ports.order } }
          ∧ (p ≠ .traction → t.ports.order = s.ports.order))
      ∧ (∀ cause, s.restart = some cause → s.nv.inFlight = none → p = .service →
          s.ports.port.service.sending = some restartReply → restartReply ∉ s.ports.port.service.replies →
          t.restart = none ∧ t.lastReset = cause ∧ t.nv.serviceWait = none ∧ t.ports.port.service = .afterReset)

/-- R23, R170, R172, R173, R174: a freshness timer that has expired makes a FRESH link LOST, with each link's consequences; at any other moment the event changes nothing. That an expiry at any other moment changes nothing, and that LINK_LOST is delivered first, are the model's choices (logs 15, 25). -/
def Obligations.FreshnessExpires : Prop :=
  ∀ (m : Master) (s : State), s.powered = true → ArbiterInv s →
    ((s.ports.link.get m).state ≠ .fresh ∨ s.time < (s.ports.link.get m).refreshed + timeoutOf s.store.live m →
      exec (.freshnessExpiry m) s = .next s)
    ∧ ((s.ports.link.get m).state = .fresh → (s.ports.link.get m).refreshed + timeoutOf s.store.live m ≤ s.time →
      ∃ t, exec (.freshnessExpiry m) s = .next t
        ∧ t.ports = { s.ports with link := s.ports.link.set m ⟨.lost, (s.ports.link.get m).refreshed⟩ }
        ∧ (m = .traction → t = { s with
            ports := t.ports
            deliveries := s.deliveries ++
              if 0 < s.ledger.cmd.sum then [.triggerArrival (.linkLost .traction)] else [] })
        ∧ (m ≠ .traction →
            ArbiterReports { s with ports := t.ports, deliveries := s.deliveries ++ [.triggerArrival (.linkLost m)] } t
            ∧ t.arbiter.nonIdle .s6 = true)
        ∧ (m = .cab →
            t.arbiter.entries.s0.posted = 0 ∧ t.arbiter.entries.s0.inForce = 0
            ∧ Arbiter.Follows s.store.live s.time [.s0, .s6] s.arbiter t.arbiter
            ∧ t.arbiter.lossRaisers = { s.arbiter.lossRaisers with cabLost := true }
            ∧ t.arbiter.gateOpen = false ∧ t.arbiter.bail = false ∧ t.arbiter.cabFresh = false
            ∧ t.arbiter.direction = s.arbiter.direction
            ∧ t.arbiter.emergencyRaisers = s.arbiter.emergencyRaisers
            ∧ Arbiter.Rest
                { s.arbiter with
                  lossRaisers := { s.arbiter.lossRaisers with cabLost := true }
                  gateOpen := false, bail := false, cabFresh := false } t.arbiter)
        ∧ (m = .supervision →
            Arbiter.Follows s.store.live s.time [.s6] s.arbiter t.arbiter
            ∧ Arbiter.Rest { s.arbiter with
                lossRaisers := { s.arbiter.lossRaisers with supervisionLost := true }, supervisionFresh := false }
                t.arbiter))

/-! ### Events that reach the arbiter otherwise -/

/-- R18, R19, R22: the four events at which the LINE and PIPE raisers are examined: each leaves the set where its line or pipe no longer calls for it, the standstill flag is set and the hold has passed. A standstill flag that clears examines nothing. What blocks deliver waits in a list, and the event takes its delivery from it: the model's choice (log 3). -/
def Obligations.RaisersExamined : Prop :=
  ∀ (c : Instr) (s : State), s.powered = true → ArbiterInv s →
    c = .emergencyHoldExpiry ∨ c = .emergencyLineReleased ∨ c = .brakePipeConditionCleared
      ∨ (∃ set, c = .standstillChange set) →
    ∃ t, exec c s = .next t
      ∧ t.emergencyLine = (if c = .emergencyLineReleased then false else s.emergencyLine)
      ∧ ArbiterReports
          { s with
            emergencyLine := t.emergencyLine
            deliveries := if c = .brakePipeConditionCleared ∨ (∃ set, c = .standstillChange set)
              then s.deliveries.erase c else s.deliveries } t
      ∧ t.arbiter.lineAsserted = (if c = .emergencyLineReleased then false else s.arbiter.lineAsserted)
      ∧ t.arbiter.pipePresent = (if c = .brakePipeConditionCleared then false else s.arbiter.pipePresent)
      ∧ t.arbiter.standstill = (if c = .standstillChange true then true
          else if c = .standstillChange false then false else s.arbiter.standstill)
      ∧ t.arbiter.emergencyRaisers =
          (if t.arbiter.standstill = true ∧ s.arbiter.nonIdle .s8 = true
              ∧ s.arbiter.entries.s8.stamp + s.store.live.emergencyHoldMs ≤ s.time then
            { s.arbiter.emergencyRaisers with
              line := s.arbiter.emergencyRaisers.line && t.arbiter.lineAsserted
              pipe := s.arbiter.emergencyRaisers.pipe && t.arbiter.pipePresent }
           else s.arbiter.emergencyRaisers)
      ∧ Arbiter.Follows s.store.live s.time [.s8] s.arbiter t.arbiter
      ∧ Arbiter.Rest
          { s.arbiter with
            lineAsserted := t.arbiter.lineAsserted, pipePresent := t.arbiter.pipePresent
            standstill := t.arbiter.standstill, emergencyRaisers := t.arbiter.emergencyRaisers } t.arbiter

/-- R17: the EMERGENCY line's assertion adds LINE, and the brake pipe condition's beginning adds PIPE; S8 is then non-idle. The begun condition's delivery is taken from the list of log 3. -/
def Obligations.RaisersAdded : Prop :=
  ∀ s : State, s.powered = true → ArbiterInv s →
    (∃ t, exec .emergencyLineAsserted s = .next t
      ∧ ArbiterReports { s with emergencyLine := true } t
      ∧ t.arbiter.nonIdle .s8 = true
      ∧ Arbiter.Follows s.store.live s.time [.s8] s.arbiter t.arbiter
      ∧ Arbiter.Rest { s.arbiter with
          lineAsserted := true, emergencyRaisers := { s.arbiter.emergencyRaisers with line := true } } t.arbiter)
    ∧ (∃ t, exec .brakePipeConditionBegun s = .next t
      ∧ ArbiterReports { s with deliveries := s.deliveries.erase .brakePipeConditionBegun } t
      ∧ t.arbiter.nonIdle .s8 = true
      ∧ Arbiter.Follows s.store.live s.time [.s8] s.arbiter t.arbiter
      ∧ Arbiter.Rest { s.arbiter with
          pipePresent := true, emergencyRaisers := { s.arbiter.emergencyRaisers with pipe := true } } t.arbiter)

/-- R26: a transducer health change is recorded, and restraint is released where the five conditions then hold together; it is never raised by one. Its delivery is taken from the list of log 3. -/
def Obligations.TransducerHealthTaken : Prop :=
  ∀ (which : Transducer) (healthy : Bool) (s : State), s.powered = true → ArbiterInv s →
    ∃ t, exec (.transducerHealthChange which healthy) s = .next t
      ∧ ArbiterReports { s with deliveries := s.deliveries.erase (.transducerHealthChange which healthy) } t
      ∧ t.arbiter.healthyA = (if which = .bcA then healthy else s.arbiter.healthyA)
      ∧ t.arbiter.healthyB = (if which = .bcB then healthy else s.arbiter.healthyB)
      ∧ t.arbiter.healthyPipe = (if which = .pipe then healthy else s.arbiter.healthyPipe)
      ∧ (t.arbiter.nonIdle .s7 = true ↔ s.arbiter.nonIdle .s7 = true
          ∧ ¬ (s.arbiter.configValid = true ∧ s.arbiter.cabFresh = true ∧ s.arbiter.supervisionFresh = true
            ∧ t.arbiter.healthyA = true ∧ t.arbiter.healthyB = true ∧ t.arbiter.healthyPipe = true))
      ∧ Arbiter.Follows s.store.live s.time [.s7] s.arbiter t.arbiter
      ∧ Arbiter.Rest
          { s.arbiter with
            healthyA := t.arbiter.healthyA, healthyB := t.arbiter.healthyB, healthyPipe := t.arbiter.healthyPipe
            restraintRaised := t.arbiter.restraintRaised } t.arbiter

/-! ### The blend engine -/

/-- R50, R52, R53: a clip request lowers its axle's command to the axle's limit and sends a CLIP order, or, where the command is not above the limit, does nothing; an emergency notice sets every command to 0 and sends an EMERGENCY order in every case. Every order carries commands within the limits, and zeros while S8 is non-idle; a second request whose command an order has so lowered sends none (log 36). Each takes its delivery from the list of log 3. -/
def Obligations.ClipAndEmergencyOrders : Prop :=
  ∀ (i : Axle) (s : State), s.powered = true → ArbiterInv s →
    (s.ledger.cmd.get i ≤ (s.slide.axles.get i).lim →
      exec (.clipRequest i) s = .next { s with deliveries := s.deliveries.erase (.clipRequest i) })
    ∧ ((s.slide.axles.get i).lim < s.ledger.cmd.get i →
      ∃ t, exec (.clipRequest i) s = .next t
        ∧ State.Ordered
            { s with
              deliveries := s.deliveries.erase (.clipRequest i)
              ledger := { s.ledger with cmd := s.ledger.cmd.set i (s.slide.axles.get i).lim } } t .clip
        ∧ (s.arbiter.nonIdle .s8 = true → ∀ j, t.ledger.cmd.get j = 0))
    ∧ (∃ t, exec .emergencyNotice s = .next t
        ∧ State.Ordered
            { s with
              deliveries := s.deliveries.erase .emergencyNotice
              ledger := { s.ledger with cmd := ⟨0, 0, 0, 0, 0, 0⟩ } } t .emergency
        ∧ ∀ j, t.ledger.cmd.get j = 0)

/-- R31, R34, R36, R37, R39, R50, R51: what a blend period does for the electric brake: caps, target, unmet with its place in the ledger summary, targets, commands and the PERIOD order, which carries the commands as stage 4 left them. -/
def Obligations.BlendPeriodElectric : Prop :=
  ∀ s : State, s.powered = true →
    ∃ t, exec .blendPeriod s = .next t
      ∧ t = { s with
          ledger := t.ledger, deliveries := t.deliveries
          timers := { s.timers with blend := s.time }
          ports := { s.ports with
            port := { s.ports.port with traction := t.ports.port.traction }, order := t.ports.order } }
      ∧ t.ledger.demand = s.arbiter.record ∧ t.ledger.withdrawn = s.ledger.withdrawn
      ∧ (∀ i,
          (s.ports.link.traction.state = .fresh ∧ s.ledger.withdrawn = false ∧ s.ports.capability.cutOut.get i = false →
            t.ledger.avail.get i = min (s.ports.capability.axles.get i).available.toNat 1000
            ∧ t.ledger.ach.get i = min (s.ports.capability.axles.get i).achieved.toNat 1000)
          ∧ (s.ports.link.traction.state ≠ .fresh ∨ s.ledger.withdrawn = true ∨ s.ports.capability.cutOut.get i = true →
            t.ledger.avail.get i = 0 ∧ t.ledger.ach.get i = 0)
          ∧ t.ledger.lim.get i = (s.slide.axles.get i).lim
          ∧ t.ledger.cap.get i = min (t.ledger.avail.get i) (t.ledger.lim.get i)
          ∧ t.ledger.tgt.get i ≤ t.ledger.cap.get i
          ∧ t.ledger.cmd.get i =
              (if s.arbiter.record.emergency = true ∨ s.arbiter.record.electricPermitted = false then 0
               else if s.ledger.cmd.get i < t.ledger.tgt.get i then
                min (t.ledger.tgt.get i) (s.ledger.cmd.get i + s.store.live.eRise)
               else if t.ledger.tgt.get i < s.ledger.cmd.get i then
                (if t.ledger.cap.get i < s.ledger.cmd.get i then t.ledger.tgt.get i
                 else max (t.ledger.tgt.get i) (s.ledger.cmd.get i - s.store.live.eFall))
               else s.ledger.cmd.get i)
          ∧ t.ledger.cmd.get i ≤ t.ledger.cap.get i)
      ∧ t.ledger.target =
          (if s.arbiter.record.electricPermitted = true ∧ s.arbiter.record.emergency = false then
            min (max s.arbiter.record.blended s.arbiter.record.electricOnly) t.ledger.cap.sum else 0)
      ∧ t.ledger.unmet = max s.arbiter.record.blended s.arbiter.record.electricOnly - t.ledger.target
      ∧ numberAt (ledgerSummary t) 20 2 = t.ledger.unmet % 65536
      ∧ t.ledger.tgt = waterFill t.ledger.target t.ledger.cap
      ∧ t.ledger.lastReason = .period
      ∧ t.ports.line .traction = s.ports.port.traction.sending.toList
          ++ [EffortOrder.frame ⟨t.ledger.cmd, .period⟩] ++ s.ports.port.traction.replies
      ∧ t.ports.port.traction.assembly = s.ports.port.traction.assembly

/-- R35, R40 to R49: what a blend period does for the air brake, for the clamp flags and for the deficit. -/
def Obligations.BlendPeriodAir : Prop :=
  ∀ s : State, s.powered = true →
    ∃ t, exec .blendPeriod s = .next t
      ∧ t.ledger.sumAch = t.ledger.ach.sum
      ∧ t.ledger.airReq = min 6000 (max s.arbiter.record.airFloor
          (if s.arbiter.record.bail = true then 0 else s.arbiter.record.blended - t.ledger.sumAch))
      ∧ (∀ k, t.ledger.capAir.get k =
            min (((Truck.axles k).map fun i => t.ledger.lim.get i - t.ledger.ach.get i).sum)
              ((s.store.live.pCap - s.store.live.pReturn) * s.store.live.truckGain.get k / 256)
          ∧ t.ledger.split.get k ≤ t.ledger.capAir.get k)
      ∧ t.ledger.split.b =
          min t.ledger.capAir.b (t.ledger.airReq - min t.ledger.capAir.a (t.ledger.airReq - t.ledger.airReq / 2))
      ∧ t.ledger.split.a = min t.ledger.capAir.a (t.ledger.airReq - t.ledger.split.b)
      ∧ t.ledger.split.a + t.ledger.split.b + t.ledger.unserved = t.ledger.airReq
      ∧ (s.arbiter.record.emergency = true → ∀ k, t.ledger.pressure.get k = s.store.live.pEmer
          ∧ t.ledger.airForce.get k =
              min 6000 ((s.store.live.pEmer - s.store.live.pReturn) * s.store.live.truckGain.get k / 256))
      ∧ (s.arbiter.record.emergency = false → ∀ k,
          t.ledger.pressure.get k = (if t.ledger.airForce.get k = 0 then 0 else
            min s.store.live.pCap (s.store.live.pReturn
              + (t.ledger.airForce.get k * 256 + s.store.live.truckGain.get k - 1) / s.store.live.truckGain.get k))
          ∧ (s.arbiter.record.profile = .service →
              t.ledger.airForce.get k =
                (if s.ledger.airForce.get k < t.ledger.split.get k then
                  min (t.ledger.split.get k) (s.ledger.airForce.get k + s.store.live.airRateService)
                 else max (t.ledger.split.get k) (s.ledger.airForce.get k - s.store.live.airRateRelease))))
      ∧ (∀ k, t.ledger.measured.get k = (s.loops.get k).measured
          ∧ t.ledger.healthy.get k = decide ((s.loops.get k).mode = .normal)
          ∧ t.ledger.truckForce.get k = (if (s.loops.get k).mode = .normal then
              min 6000 (((s.loops.get k).measured - s.store.live.pReturn) * s.store.live.truckGain.get k / 256) else 0))
      ∧ t.ledger.deficit = (if s.arbiter.record.emergency = true then 0 else
          max ((if s.arbiter.record.bail = true then 0 else s.arbiter.record.blended)
              - (t.ledger.sumAch + (t.ledger.truckForce.a + t.ledger.truckForce.b)))
            (s.arbiter.record.airFloor - (t.ledger.truckForce.a + t.ledger.truckForce.b)))
      ∧ t.ledger.pendingInput = false
      ∧ (t.ledger.clamps.input = true ↔ s.ledger.pendingInput = true
          ∨ ∃ i, s.ports.link.traction.state = .fresh ∧ s.ledger.withdrawn = false
            ∧ s.ports.capability.cutOut.get i = false
            ∧ (1000 < (s.ports.capability.axles.get i).available.toNat
              ∨ 1000 < (s.ports.capability.axles.get i).achieved.toNat))
      ∧ (t.ledger.clamps.range = true ↔
          6000 < max s.arbiter.record.airFloor
            (if s.arbiter.record.bail = true then 0 else s.arbiter.record.blended - t.ledger.sumAch)
          ∨ ∃ k, (s.arbiter.record.emergency = true
              ∧ 6000 < (s.store.live.pEmer - s.store.live.pReturn) * s.store.live.truckGain.get k / 256)
            ∨ ((s.loops.get k).mode = .normal
              ∧ 6000 < ((s.loops.get k).measured - s.store.live.pReturn) * s.store.live.truckGain.get k / 256))
      ∧ (t.ledger.clamps.pressure = true ↔ s.arbiter.record.emergency = false ∧ ∃ k, t.ledger.airForce.get k ≠ 0
          ∧ s.store.live.pCap < s.store.live.pReturn
            + (t.ledger.airForce.get k * 256 + s.store.live.truckGain.get k - 1) / s.store.live.truckGain.get k)
      ∧ (t.ledger.deficit ≤ s.store.live.deficitThreshold →
          t.ledger.deficitTimer = 0 ∧ t.ledger.deficitFlag = false ∧ t.deliveries = s.deliveries)
      ∧ (s.store.live.deficitThreshold < t.ledger.deficit →
          t.ledger.deficitTimer = min (s.ledger.deficitTimer + 20) s.store.live.deficitTimeMs
          ∧ t.ledger.deficitFlag =
              (s.ledger.deficitFlag || decide (t.ledger.deficitTimer = s.store.live.deficitTimeMs))
          ∧ t.deliveries = s.deliveries ++
              (if t.ledger.deficitFlag = true ∧ s.ledger.deficitFlag = false then
                [.triggerArrival (.effortDeficit t.ledger.deficit)] else []))

/-- R38: the water-fill gives no axle more than its cap, gives out a target that the caps can hold exactly, and shares evenly among the axles that it does not bring to their caps. -/
def Obligations.WaterFillDivides : Prop :=
  ∀ (target : Nat) (cap : PerAxle Nat), target ≤ cap.sum →
    (waterFill target cap).sum = target
    ∧ (∀ i, (waterFill target cap).get i ≤ cap.get i)
    ∧ (∀ i j, (waterFill target cap).get i < cap.get i →
        (waterFill target cap).get j ≤ (waterFill target cap).get i + 1
        ∧ ((waterFill target cap).get j = (waterFill target cap).get i + 1 → j.number < i.number))

/-- R42: the three steps of the split, the unserved air that is recorded and reported in the ledger summary, and the cases that the rule draws from them. -/
def Obligations.AirRequirementIsSplit : Prop :=
  (∀ s : State, numberAt (ledgerSummary s) 22 2 = s.ledger.unserved % 65536)
  ∧ ∀ l : Ledger,
    l.stage7.split.b = min l.capAir.b (l.airReq - min l.capAir.a (l.airReq - l.airReq / 2))
    ∧ l.stage7.split.a = min l.capAir.a (l.airReq - l.stage7.split.b)
    ∧ l.stage7 = { l with split := l.stage7.split, unserved := l.airReq - l.stage7.split.a - l.stage7.split.b }
    ∧ l.stage7.split.a + l.stage7.split.b = min l.airReq (l.capAir.a + l.capAir.b)
    ∧ (l.capAir.a = l.capAir.b → l.airReq < 2 * l.capAir.a →
        l.stage7.split.a = l.airReq - l.airReq / 2 ∧ l.stage7.split.b = l.airReq / 2)
    ∧ (l.capAir.a = 0 → l.stage7.split.a = 0 ∧ l.stage7.split.b = min l.airReq l.capAir.b)
    ∧ (l.capAir.b = 0 → l.stage7.split.b = 0 ∧ l.stage7.split.a = min l.airReq l.capAir.a)
    ∧ (l.airReq = 0 → l.stage7.split = ⟨0, 0⟩)

/-! ### Cylinders and brake pipe -/

/-- R58 to R65: one sample of a truck loop: health, measured pressure, target and correction, the valve state that they select, the functions that carry it, the response watch, and what is reported. The loop currents come with the command, and the start pressure keeps its value while no run stands: the model's choices (logs 22, 37). -/
def Obligations.TruckSampleTaken : Prop :=
  ∀ (k : Truck) (loops : LoopCurrents) (cv : Conversion) (s : State), s.powered = true →
    cv = Matrix.conversion { s.matrix with loops := loops } (truckFunctions k).1 →
    ∃ t l, exec (.truckSample k loops) s = .next t ∧ l = t.loops.get k
      ∧ l.mode = (if cv.healthy then .normal else .failsafe)
      ∧ l.measured = (if cv.healthy then cv.value else 0)
      ∧ l.target = s.ledger.pressure.get k ∧ l.correction = (s.slide.trucks.get k).correction
      ∧ (l.correction = .release → l.valve = .release) ∧ (l.correction = .hold → l.valve = .lap)
      ∧ (l.correction = .none → l.valve =
          (if l.target = 0 then .release
           else if cv.healthy = false then .apply
           else if l.measured + s.store.live.pressureBand < l.target then .apply
           else if l.target + s.store.live.pressureBand < l.measured then .release else .lap))
      ∧ (l.valve = (s.loops.get k).valve → t.matrix.functions = s.matrix.functions)
      ∧ (l.valve ≠ (s.loops.get k).valve →
          t.matrix.functions.get (truckFunctions k).2.1 = decide (l.valve = .apply)
          ∧ t.matrix.functions.get (truckFunctions k).2.2 = decide (l.valve = .release))
      ∧ (∀ f, f ≠ (truckFunctions k).2.1 → f ≠ (truckFunctions k).2.2 →
          t.matrix.functions.get f = s.matrix.functions.get f)
      ∧ l.applyTime = (if cv.healthy = false ∨ l.valve ≠ .apply ∨ (s.loops.get k).valve ≠ .apply
            ∨ (s.loops.get k).mode ≠ .normal then 0 else min ((s.loops.get k).applyTime + 10) 3000)
      ∧ l.applyStart = (if cv.healthy = true ∧ l.valve = .apply
            ∧ ((s.loops.get k).valve ≠ .apply ∨ (s.loops.get k).mode ≠ .normal) then l.measured
          else (s.loops.get k).applyStart)
      ∧ (cv.healthy = false → l.responseFault = (s.loops.get k).responseFault)
      ∧ (cv.healthy = true → l.responseFault =
          (if l.target ≤ l.measured + s.store.live.pressureBand ∧ l.measured ≤ l.target + s.store.live.pressureBand
           then false
           else (s.loops.get k).responseFault
            || decide (l.valve = .apply ∧ l.applyTime = 3000 ∧ l.measured < l.applyStart + 20)))
      ∧ t.deliveries = s.deliveries
          ++ (if cv.healthy = false ∧ (s.loops.get k).mode ≠ .failsafe then
                [.transducerHealthChange (truckTransducer k) false,
                 .triggerArrival (.pressureFault (truckTransducer k))]
              else if cv.healthy = true ∧ (s.loops.get k).mode ≠ .normal then
                [.transducerHealthChange (truckTransducer k) true] else [])
          ++ (if l.responseFault = true ∧ (s.loops.get k).responseFault = false then
                [.triggerArrival (.responseFault k)] else [])
      ∧ t = { s with
          loops := s.loops.set k l, deliveries := t.deliveries
          matrix := { s.matrix with loops := loops, functions := t.matrix.functions }
          timers := { s.timers with truck := s.timers.truck.set k s.time } }

/-- R67 to R72: one sample of the brake pipe watch: health, pressure and reading history, and the emergency condition, which begins on a fast fall over a full history or below `pipe_emer_level` and clears at `pipe_recharge`. The loop currents come with the command: the model's choice (log 22). -/
def Obligations.PipeSampleTaken : Prop :=
  ∀ (loops : LoopCurrents) (cv : Conversion) (s : State), s.powered = true →
    cv = Matrix.conversion { s.matrix with loops := loops } .pipe → s.watch.history.length ≤ 50 →
    ∃ t, exec (.pipeSample loops) s = .next t
      ∧ t = { s with
          watch := t.watch, deliveries := t.deliveries
          matrix := { s.matrix with loops := loops }
          timers := { s.timers with pipe := s.time } }
      ∧ (cv.healthy = true →
          t.watch.mode = .normal ∧ t.watch.fault = false ∧ t.watch.pressure = cv.value
          ∧ t.watch.history =
              (if s.watch.history.length = 50 then s.watch.history.drop 1 else s.watch.history) ++ [cv.value]
          ∧ (s.watch.present = true → (t.watch.present = true ↔ cv.value < s.store.live.pipeRecharge))
          ∧ (s.watch.present = false → (t.watch.present = true ↔
              cv.value < s.store.live.pipeEmerLevel
              ∨ (t.watch.history.length = 50
                  ∧ (s.store.live.pipeDropRate : Int) ≤ ((t.watch.history.headD 0 : Int) - (cv.value : Int)) * 2)))
          ∧ t.deliveries = s.deliveries
              ++ (if s.watch.mode = .normal then [] else [.transducerHealthChange .pipe true])
              ++ (if t.watch.present = true ∧ s.watch.present = false then [.brakePipeConditionBegun] else [])
              ++ (if t.watch.present = false ∧ s.watch.present = true then [.brakePipeConditionCleared] else []))
      ∧ (cv.healthy = false →
          t.watch.mode = .failsafe ∧ t.watch.present = s.watch.present
          ∧ (s.watch.mode = .failsafe → t.watch = s.watch ∧ t.deliveries = s.deliveries)
          ∧ (s.watch.mode ≠ .failsafe →
              t.watch.fault = true ∧ t.watch.pressure = 0 ∧ t.watch.history = []
              ∧ t.deliveries = s.deliveries
                  ++ [.transducerHealthChange .pipe false, .triggerArrival (.pressureFault .pipe)]))

/-! ### Axles -/

/-- R76 to R87, R152: one window of the axle monitor: the closed counts, the axle records, the reference speed, standstill, distance, and what is handed on. The edges come with the expiry that closes their count, and a TACH function that no channel holds reads unhealthy: the model's choices (logs 21, 32). -/
def Obligations.AxleWindowTaken : Prop :=
  ∀ (pulses : Vector PulseInput 8) (s : State), s.powered = true →
    ∃ t, exec (.axleWindow pulses) s = .next t
      ∧ t = { s with
          monitor := t.monitor, deliveries := t.deliveries
          matrix := { s.matrix with pulses := t.matrix.pulses }
          timers := { s.timers with window := s.time } }
      ∧ (∀ p : Fin 8,
          (t.matrix.pulses[p]).latest =
              (if (pulses[p]).healthy = true then min ((s.matrix.pulses[p]).count + (pulses[p]).edges) 255 else 0)
          ∧ (t.matrix.pulses[p]).count = 0
          ∧ (t.matrix.pulses[p]).total = (s.matrix.pulses[p]).total + BitVec.ofNat 16 (t.matrix.pulses[p]).latest
          ∧ (t.matrix.pulses[p]).healthy = (pulses[p]).healthy)
      ∧ (∀ i : Axle, tachChannel s.matrix.table i = none → t.monitor.axles.get i = ⟨.faulted, [], 0, [], 0, none⟩)
      ∧ (∀ (i : Axle) (p : Fin 8), tachChannel s.matrix.table i = some p →
          (t.monitor.axles.get i).channel = some p
          ∧ ((pulses[p]).healthy = false → t.monitor.axles.get i = ⟨.faulted, [], 0, [], 0, some p⟩)
          ∧ ((pulses[p]).healthy = true →
              (s.monitor.axles.get i).tach = .faulted ∨ (s.monitor.axles.get i).channel ≠ some p →
            t.monitor.axles.get i =
              ⟨.healthy, [(t.matrix.pulses[p]).latest], (t.monitor.axles.get i).speed,
                [(t.monitor.axles.get i).speed], 0, some p⟩)
          ∧ ((pulses[p]).healthy = true → (s.monitor.axles.get i).tach = .healthy →
              (s.monitor.axles.get i).channel = some p →
            (t.monitor.axles.get i).tach = .healthy
            ∧ (t.monitor.axles.get i).pulses =
                pushEight (s.monitor.axles.get i).pulses (t.matrix.pulses[p]).latest
            ∧ (t.monitor.axles.get i).speeds =
                pushEight (s.monitor.axles.get i).speeds (t.monitor.axles.get i).speed
            ∧ (t.monitor.axles.get i).decel =
                (if (s.monitor.axles.get i).speeds.length = 8 then
                  ((((s.monitor.axles.get i).speeds.headD 0 : Int) - ((t.monitor.axles.get i).speed : Int)) * 25).tdiv 2
                 else 0))
          ∧ ((pulses[p]).healthy = true →
              (t.monitor.axles.get i).speed =
                min 1600 ((min (t.monitor.axles.get i).pulses.sum 1023 * (s.store.live.wheelDiameter.get i * 355 / 113)
                    * 36 * 8 + (t.monitor.axles.get i).pulses.length * s.store.live.tachPpr * 40)
                  / ((t.monitor.axles.get i).pulses.length * s.store.live.tachPpr * 80))))
      ∧ ((∀ i, (t.monitor.axles.get i).tach = .faulted) →
          t.monitor.degraded = true ∧ t.monitor.fine = s.monitor.fine - s.store.live.refDecelLimit)
      ∧ (∀ i, (t.monitor.axles.get i).tach = .healthy →
          (∀ j, (t.monitor.axles.get j).tach = .healthy →
            (t.monitor.axles.get j).speed ≤ (t.monitor.axles.get i).speed) →
          t.monitor.degraded = false
          ∧ t.monitor.fine =
              (if 100 * (t.monitor.axles.get i).speed ≤ s.monitor.fine then
                max (100 * (t.monitor.axles.get i).speed) (s.monitor.fine - s.store.live.refDecelLimit)
               else min (100 * (t.monitor.axles.get i).speed) (s.monitor.fine + s.store.live.refRiseLimit)))
      ∧ t.monitor.reported = t.monitor.fine / 100
      ∧ t.monitor.standstillTimer =
          (if t.monitor.reported = 0 then min (s.monitor.standstillTimer + 10) 1000 else 0)
      ∧ t.monitor.standstill =
          (if 5 ≤ t.monitor.reported then false
           else if t.monitor.standstillTimer = 1000 then true else s.monitor.standstill)
      ∧ t.monitor.accumulator = (s.monitor.accumulator + t.monitor.fine) % 360000
      ∧ t.monitor.distance =
          s.monitor.distance + BitVec.ofNat 32 ((s.monitor.accumulator + t.monitor.fine) / 360000)
      ∧ (∃ c : WindowCompletion,
          t.deliveries = s.deliveries
            ++ (([.a1, .a2, .a3, .a4, .a5, .a6] : List Axle).filter fun i =>
                decide ((s.monitor.axles.get i).tach = .healthy ∧ (t.monitor.axles.get i).tach = .faulted)).map
                (fun i => Instr.triggerArrival (.tachFault i))
            ++ [.slideWindow c]
            ++ (if s.monitor.standstill = t.monitor.standstill then [] else [.standstillChange t.monitor.standstill])
          ∧ c.reference = t.monitor.reported
          ∧ ∀ i, (c.axles.get i).tach = (t.monitor.axles.get i).tach
            ∧ (c.axles.get i).speed = (t.monitor.axles.get i).speed
            ∧ (c.axles.get i).decel = (t.monitor.axles.get i).decel
            ∧ (tachChannel s.matrix.table i = none → (c.axles.get i).held = 0)
            ∧ ∀ p : Fin 8, tachChannel s.matrix.table i = some p → (c.axles.get i).held =
                (if (pulses[p]).healthy = true ∧ (s.monitor.axles.get i).tach = .healthy
                    ∧ (s.monitor.axles.get i).channel = some p then (s.monitor.axles.get i).speeds.length else 0))

/-- R92, R93, R95, R96, R97, R101, R104, R105, R112, R113, R115: one slide window: creep and the whole record of each override of section 5.3, the clip requests and then the PERSISTENT_SLIDE triggers, the trucks' corrections and the sand output. The window's delivery is taken from the list of log 3, in which the requests stand before the triggers; a sand on time past a lowered parameter goes by log 23, and a creep below a thousandth of the reference is 0 by log 38. -/
def Obligations.SlideWindowTaken : Prop :=
  ∀ (c : WindowCompletion) (s : State), s.powered = true →
    ∃ t, exec (.slideWindow c) s = .next t
      ∧ t = { s with
          slide := t.slide, deliveries := t.deliveries
          matrix := { s.matrix with
            functions := { s.matrix.functions with
              sandFwd := t.matrix.functions.sandFwd, sandRev := t.matrix.functions.sandRev } } }
      ∧ t.slide.reference = c.reference
      ∧ (∀ i,
          ((c.axles.get i).tach = .faulted →
            t.slide.axles.get i =
              { s.slide.axles.get i with
                state := .faulted, creep := 0, decel := 0, lim := 1000, suspect := 0, quiet := 0, episode := false
                budget := if (s.slide.axles.get i).episode then s.store.live.correctionBudget
                  else (s.slide.axles.get i).budget })
          ∧ ((c.axles.get i).tach = .healthy →
            (t.slide.axles.get i).decel = (c.axles.get i).decel
            ∧ (t.slide.axles.get i).creep =
                (if c.reference = 0 ∨ c.reference ≤ (c.axles.get i).speed then 0
                 else (c.reference - (c.axles.get i).speed) * 1000 / c.reference)
            ∧ ((s.slide.axles.get i).state = .faulted →
                t.slide.axles.get i =
                  { state := .adhering, creep := (t.slide.axles.get i).creep, decel := (c.axles.get i).decel
                    lim := 1000, budget := s.store.live.correctionBudget, episode := false, suspect := 0, quiet := 0 })
            ∧ ((s.slide.axles.get i).state ≠ .faulted → c.reference < s.store.live.slideMinSpeed →
                t.slide.axles.get i =
                  { state := .adhering, creep := (t.slide.axles.get i).creep, decel := (c.axles.get i).decel
                    lim := 1000, episode := false, suspect := 0, quiet := 0
                    budget := if (s.slide.axles.get i).episode then s.store.live.correctionBudget
                      else (s.slide.axles.get i).budget })
            ∧ ((s.slide.axles.get i).state = .adhering → s.store.live.slideMinSpeed ≤ c.reference →
                (c.axles.get i).held < 8 →
                t.slide.axles.get i =
                  { s.slide.axles.get i with
                    creep := (t.slide.axles.get i).creep, decel := (c.axles.get i).decel })
            ∧ ((s.slide.axles.get i).state ≠ .faulted → s.store.live.slideMinSpeed ≤ c.reference →
                ((s.slide.axles.get i).state ≠ .adhering ∨ 8 ≤ (c.axles.get i).held) →
                t.slide.axles.get i =
                  AxleSlide.judge s.store.live (s.ledger.ach.get i + s.ledger.truckForce.get i.truck / 3)
                    { s.slide.axles.get i with
                      creep := (t.slide.axles.get i).creep, decel := (c.axles.get i).decel })))
      ∧ t.deliveries = s.deliveries.erase (.slideWindow c)
          ++ (([.a1, .a2, .a3, .a4, .a5, .a6] : List Axle).filter fun i =>
              decide ((t.slide.axles.get i).lim < (s.slide.axles.get i).lim
                ∧ (t.slide.axles.get i).lim < s.ledger.cmd.get i)).map Instr.clipRequest
          ++ (([.a1, .a2, .a3, .a4, .a5, .a6] : List Axle).filter fun i =>
              decide ((t.slide.axles.get i).state = .persistent ∧ (s.slide.axles.get i).state ≠ .persistent)).map
              (fun i => Instr.triggerArrival (.persistentSlide i))
      ∧ (∀ k, t.slide.trucks.get k =
          TruckSlide.window s.store.live s.arbiter.record.emergency (s.ledger.pressure.get k)
            ((Truck.axles k).any fun i => (t.slide.axles.get i).episode)
            ((Truck.axles k).any fun i => (t.slide.axles.get i).state = .sliding)
            ((Truck.axles k).any fun i => (t.slide.axles.get i).state = .recovering) (s.slide.trucks.get k))
      ∧ (t.slide.sand.request = true ↔
          ((∃ i, (t.slide.axles.get i).state = .persistent)
            ∨ (∃ i j, i ≠ j ∧ (t.slide.axles.get i).state = .sliding ∧ (t.slide.axles.get j).state = .sliding))
          ∧ s.store.live.sandMinSpeed ≤ c.reference ∧ s.arbiter.record.direction ≠ .neutral)
      ∧ (t.slide.sand.request = true →
          t.slide.sand.output = (if s.arbiter.record.direction = .reverse then .rev else .fwd)
          ∧ t.slide.sand.onTime = (if s.slide.sand.output = .off then 0
              else min (s.slide.sand.onTime + 10) s.store.live.sandMinOnMs))
      ∧ (t.slide.sand.request = false → s.slide.sand.output ≠ .off →
          (s.slide.sand.onTime = s.store.live.sandMinOnMs →
              t.slide.sand.output = .off ∧ t.slide.sand.onTime = s.slide.sand.onTime)
          ∧ (s.slide.sand.onTime < s.store.live.sandMinOnMs → t.slide.sand.output = s.slide.sand.output
              ∧ t.slide.sand.onTime = min (s.slide.sand.onTime + 10) s.store.live.sandMinOnMs)
          ∧ (s.store.live.sandMinOnMs < s.slide.sand.onTime → t.slide.sand.output = s.slide.sand.output
              ∧ t.slide.sand.onTime = s.store.live.sandMinOnMs))
      ∧ (t.slide.sand.request = false → s.slide.sand.output = .off →
          t.slide.sand.output = .off ∧ t.slide.sand.onTime = s.slide.sand.onTime)
      ∧ (t.slide.sand.output ≠ s.slide.sand.output →
          t.matrix.functions.sandFwd = decide (t.slide.sand.output = .fwd)
          ∧ t.matrix.functions.sandRev = decide (t.slide.sand.output = .rev))
      ∧ (t.slide.sand.output = s.slide.sand.output → t.matrix.functions = s.matrix.functions)

/-- R98 to R104: the slide state machine of an axle at a window that judges it: the whole record that each state leaves, with the quiet timer and the end of an episode, and the record of an entry into slide. -/
def Obligations.SlideStateMachine : Prop :=
  ∀ (cfg : ConfigSet) (force : Nat) (r : AxleSlide),
    (r.state = .adhering →
      (cfg.creepWarn ≤ r.creep ∨ (cfg.decelWarn : Int) ≤ r.decel →
        r.judge cfg force = { r with state := .suspect, suspect := 1, quiet := 0 })
      ∧ (r.creep < cfg.creepWarn → r.decel < (cfg.decelWarn : Int) →
          (r.episode = false → r.judge cfg force = r)
          ∧ (r.episode = true → r.quiet + 10 < cfg.episodeQuietMs →
              r.judge cfg force = { r with quiet := r.quiet + 10 })
          ∧ (r.episode = true → cfg.episodeQuietMs ≤ r.quiet + 10 →
              r.judge cfg force = { r with episode := false, budget := cfg.correctionBudget, quiet := 0 })))
    ∧ (r.state = .suspect →
      (cfg.creepSlide ≤ r.creep ∨ (cfg.decelSlide : Int) ≤ r.decel → r.judge cfg force = r.enter cfg force)
      ∧ (¬(cfg.creepSlide ≤ r.creep ∨ (cfg.decelSlide : Int) ≤ r.decel) →
          (r.creep < cfg.creepWarn ∧ r.decel < (cfg.decelWarn : Int) →
            r.judge cfg force = { r with state := .adhering, suspect := 0, quiet := 0 })
          ∧ (¬(r.creep < cfg.creepWarn ∧ r.decel < (cfg.decelWarn : Int)) →
              (r.suspect + 1 < cfg.suspectWindows → r.judge cfg force = { r with suspect := r.suspect + 1 })
              ∧ (cfg.suspectWindows ≤ r.suspect + 1 → r.judge cfg force = r.enter cfg force))))
    ∧ (r.state = .sliding → r.judge cfg force =
        (if r.creep < cfg.creepRecover ∧ r.decel < (cfg.decelWarn : Int) then { r with state := .recovering } else r))
    ∧ (r.state = .recovering →
      (cfg.creepSlide ≤ r.creep → r.judge cfg force = r.enter cfg force)
      ∧ (r.creep < cfg.creepSlide → 1000 ≤ r.lim + cfg.restoreStep → r.creep < cfg.creepWarn →
          r.judge cfg force = { r with state := .adhering, lim := 1000, quiet := 0 })
      ∧ (r.creep < cfg.creepSlide → r.lim + cfg.restoreStep < 1000 ∨ cfg.creepWarn ≤ r.creep →
          r.judge cfg force = { r with lim := min (r.lim + cfg.restoreStep) 1000 }))
    ∧ (r.state = .persistent →
      (cfg.creepWarn ≤ r.creep → r.judge cfg force = { r with lim := cfg.slideFloor, quiet := 0 })
      ∧ (r.creep < cfg.creepWarn → r.quiet + 10 < cfg.episodeQuietMs →
          r.judge cfg force = { r with lim := cfg.slideFloor, quiet := r.quiet + 10 })
      ∧ (r.creep < cfg.creepWarn → cfg.episodeQuietMs ≤ r.quiet + 10 →
          r.judge cfg force =
            { r with state := .adhering, lim := 1000, episode := false, budget := cfg.correctionBudget, quiet := 0 }))
    ∧ (∀ budget, budget = (if r.episode then r.budget else cfg.correctionBudget) →
        (0 < budget → r.enter cfg force =
          { r with
            state := .sliding, episode := true, budget := budget - 1, quiet := 0, suspect := 0
            lim := min 1000 (max cfg.slideFloor (force * cfg.slideCutPct / 100)) })
        ∧ (budget = 0 → r.enter cfg force =
          { r with
            state := .persistent, episode := true, budget := 0, quiet := 0, suspect := 0, lim := cfg.slideFloor }))

/-- R107 to R110: the correction of a truck at a window, by its steps; the release time that never advances past its limit; and what S8's leaving IDLE does at once. Its delivery is taken from the list of log 3. -/
def Obligations.TruckCorrections : Prop :=
  (∀ (cfg : ConfigSet) (emergency : Bool) (target : Nat) (runs sliding recovering : Bool) (r w : TruckSlide)
      (release limit : Nat) (spent : Bool),
    w = r.window cfg emergency target runs sliding recovering →
    release = (if runs then r.release else 0) → spent = (runs && r.exhausted) →
    limit = (if emergency then cfg.emerReleaseMs else cfg.maxReleaseMs) →
    (spent = true → w = ⟨.none, release, true⟩)
    ∧ (spent = false → sliding = true → 0 < target → release + 10 ≤ limit → w = ⟨.release, release + 10, false⟩)
    ∧ (spent = false → sliding = true → 0 < target → limit < release + 10 → w = ⟨.none, release, true⟩)
    ∧ (spent = false → (sliding = false ∨ target = 0) →
        w = ⟨if recovering then .hold else .none, release, false⟩)
    ∧ (r.release < w.release → w.release ≤ limit))
  ∧ (∀ s : State, s.powered = true →
      ∃ t, exec .s8LeavesIdle s = .next t
        ∧ t = { s with
            deliveries := s.deliveries.erase .s8LeavesIdle
            slide := { s.slide with trucks := t.slide.trucks } }
        ∧ ∀ k, t.slide.trucks.get k =
            (if s.store.live.emerReleaseMs < (s.slide.trucks.get k).release + 10 then
              ⟨.none, (s.slide.trucks.get k).release, true⟩ else s.slide.trucks.get k))

/-! ### The incident recorder -/

/-- R118 to R123, R129: one sample event: the sample and the ring, the buffers with the capture that ends, the match slots, and the MATCH triggers that arrive after, in ascending slot number. That the sample holds each axle's adhesion limit is the model's reading (log 44), and that the triggers arrive inside the event is deduced (log 16). -/
def Obligations.RecorderSampleTaken : Prop :=
  ∀ s : State, s.powered = true → s.recorder.ring.length ≤ 64 →
    (∀ b : Fin 2, s.nv.recorderWait = some b → (s.recorder.buffers[b]).state = .awaitingSeal) →
    ∃ (x : Sample) (fired : List (Fin 4)) (u t : State), exec .recorderSample s = .next t
      ∧ s.Sampled x
      ∧ t = fired.foldl (fun v i => v.arrive (.matched i)) u
      ∧ fired.Pairwise (fun i j => i < j)
      ∧ (∀ i, i ∈ fired ↔ (s.recorder.slots[i]).state = .armed ∧ (s.recorder.slots[i]).met s)
      ∧ (∀ i : Fin 4,
          ((s.recorder.slots[i]).state = .armed → (s.recorder.slots[i]).met s →
            u.recorder.slots[i] = { s.recorder.slots[i] with state := .fired })
          ∧ ((s.recorder.slots[i]).state = .fired → ¬ (s.recorder.slots[i]).met s →
            u.recorder.slots[i] = { s.recorder.slots[i] with state := .armed })
          ∧ ((s.recorder.slots[i]).state = .disarmed
              ∨ ((s.recorder.slots[i]).state = .fired ↔ (s.recorder.slots[i]).met s) →
            u.recorder.slots[i] = s.recorder.slots[i]))
      ∧ u.recorder.ring =
          (if s.recorder.ring.length = 64 then s.recorder.ring.drop 1 else s.recorder.ring) ++ [x]
      ∧ u.recorder.marker = none ∧ u.recorder.nextSequence = s.recorder.nextSequence ∧ u.timers.sample = s.time
      ∧ (∀ b : Fin 2,
          ((s.recorder.buffers[b]).state = .capturing →
            u.recorder.buffers[b] = { s.recorder.buffers[b] with
              state := (u.recorder.buffers[b]).state
              autoLockDenied := (u.recorder.buffers[b]).autoLockDenied
              post := (s.recorder.buffers[b]).post ++ [x]
              position := min ((s.recorder.buffers[b]).position + 1) 65535 }
            ∧ ((s.recorder.buffers[b]).post.length + 1 < (s.recorder.buffers[b]).window →
                (u.recorder.buffers[b]).state = .capturing)
            ∧ ((s.recorder.buffers[b]).window ≤ (s.recorder.buffers[b]).post.length + 1 →
                (u.recorder.buffers[b]).state = .awaitingSeal ∨ (u.recorder.buffers[b]).state = .sealing))
          ∧ ((s.recorder.buffers[b]).state = .awaitingSeal →
            u.recorder.buffers[b] = { s.recorder.buffers[b] with
              state := (u.recorder.buffers[b]).state
              autoLockDenied := (u.recorder.buffers[b]).autoLockDenied
              position := min ((s.recorder.buffers[b]).position + 1) 65535 }
            ∧ ((u.recorder.buffers[b]).state = .awaitingSeal ∨ (u.recorder.buffers[b]).state = .sealing))
          ∧ ((s.recorder.buffers[b]).state = .free ∨ (s.recorder.buffers[b]).state = .sealing →
            u.recorder.buffers[b] = s.recorder.buffers[b]))
      ∧ (s.nothingWaits →
          (∀ b : Fin 2, (s.recorder.buffers[b]).state = .capturing →
            (s.recorder.buffers[b]).post.length + 1 < (s.recorder.buffers[b]).window) →
          u = { s with
            timers := { s.timers with sample := s.time }
            recorder := { s.recorder with
              ring := u.recorder.ring, marker := none, slots := u.recorder.slots, buffers := u.recorder.buffers } })
      ∧ (∀ (b : Fin 2) (slot : Fin 12), s.nothingWaits → s.nv.inFlight = none →
          (s.recorder.buffers[b]).state = .capturing →
          (∀ c : Fin 2, c ≠ b → (s.recorder.buffers[c]).state ≠ .capturing) →
          (s.recorder.buffers[b]).window ≤ (s.recorder.buffers[b]).post.length + 1 →
          chooseSlot s.recorder.directory = some slot →
          ∃ a, u.nv = ⟨some (.sealing b slot a false), none, none⟩)

/-- R125, R127, R128: a trigger that arrives joins the CAPTURING buffer, or else opens the lower-numbered FREE one, or else joins the AWAITING_SEAL buffer of the higher sequence number, marked LATE. Its delivery is taken from the list of log 3; the number past the largest is a free value (log 11). -/
def Obligations.TriggerArrives : Prop :=
  ∀ (tr : Trigger) (s : State), s.powered = true →
    ∃ t, exec (.triggerArrival tr) s = .next t
      ∧ t = { s with
          deliveries := s.deliveries.erase (.triggerArrival tr), recorder := t.recorder, draws := t.draws }
      ∧ (∀ (b : Fin 2) (late : Bool),
          (late = false ∧ (s.recorder.buffers[b]).state = .capturing
              ∧ ∀ c : Fin 2, c ≠ b → (s.recorder.buffers[c]).state ≠ .capturing)
            ∨ (late = true ∧ (s.recorder.buffers[b]).state = .awaitingSeal
              ∧ ∀ c : Fin 2, c ≠ b → (s.recorder.buffers[c]).state = .sealing
                ∨ (s.recorder.buffers[c]).state = .awaitingSeal
                  ∧ (s.recorder.buffers[c]).sequence < (s.recorder.buffers[b]).sequence) →
          t.recorder = { s.recorder with
            buffers := s.recorder.buffers.set b { s.recorder.buffers[b] with
              entries := (s.recorder.buffers[b]).entries ++
                (if (s.recorder.buffers[b]).entries.length < 6 then [⟨tr, (s.recorder.buffers[b]).position, late⟩]
                 else [])
              further := if (s.recorder.buffers[b]).entries.length < 6 then (s.recorder.buffers[b]).further
                else min ((s.recorder.buffers[b]).further + 1) 65535 } })
      ∧ (∀ b : Fin 2, (∀ c : Fin 2, (s.recorder.buffers[c]).state ≠ .capturing) →
          (s.recorder.buffers[b]).state = .free →
          (∀ c : Fin 2, (s.recorder.buffers[c]).state = .free → b.val ≤ c.val) →
          ∃ pre : List Sample,
            pre = s.recorder.ring.drop (s.recorder.ring.length - s.store.live.preSamples)
            ∧ t.recorder = { s.recorder with
                nextSequence := t.recorder.nextSequence
                buffers := s.recorder.buffers.set b
                  { state := .capturing
                    sequence := s.recorder.nextSequence
                    time := s.time
                    distance := s.monitor.distance
                    configSequence := s.store.sequence
                    entries := [⟨tr, pre.length, false⟩]
                    further := 0
                    pre := pre
                    window := s.store.live.postSamples
                    post := []
                    position := pre.length
                    truncated := false
                    autoLockDenied := false } }
            ∧ (s.recorder.nextSequence < 4294967295 →
                t.recorder.nextSequence = s.recorder.nextSequence + 1 ∧ t.draws = s.draws))

/-! ### Drivers, resets and power -/

/-- R151: the rows of a driver's health change, where the driver can find it: a short is found while the driver is on. The trigger joins the list of log 3. That the report of a short of a driver that is off changes nothing is the model's reading (log 42). -/
def Obligations.DriverHealthTaken : Prop :=
  (∀ (d : Fin 8) (s : State), s.matrix.driven d = false → exec (.driverHealthChange d .shortLoad) s = .next s)
  ∧ ∀ (d : Fin 8) (h : DriverHealth) (s : State), s.powered = true → h ≠ .shortLoad ∨ s.matrix.driven d = true →
    ∃ t, exec (.driverHealthChange d h) s = .next t
      ∧ t = { s with
          deliveries := t.deliveries
          matrix := { s.matrix with
            health := s.matrix.health.set d h, marks := s.matrix.marks.set d t.matrix.marks[d] } }
      ∧ t.matrix.driven d = s.matrix.driven d
      ∧ (h = .ok → t.matrix.marks[d] = false ∧ t.deliveries = s.deliveries)
      ∧ (h ≠ .ok → s.matrix.health[d] = .ok → s.matrix.ownedOutput d = true →
          t.matrix.marks[d] = true ∧ t.deliveries = s.deliveries ++ [.triggerArrival (.valveFault d)])
      ∧ (h ≠ .ok → s.matrix.health[d] = .ok → s.matrix.ownedOutput d = false →
          t.matrix.marks[d] = false ∧ t.deliveries = s.deliveries)
      ∧ (h ≠ .ok → s.matrix.health[d] ≠ .ok →
          t.matrix.marks[d] = s.matrix.marks[d] ∧ t.deliveries = s.deliveries)

/-- R188, R189, R190: the RESTART line calls a warm restart at each change to asserted, a call that finds one pending joins it, and a pending restart takes effect when no NV operation is in flight and no OK reply to a RESTART has yet to be transmitted whole. That a line already asserted calls nothing at a second report, that the restart takes effect inside the event that makes it due, and which deliveries it keeps, are the model's (logs 15, 16, 4); so are the drop rate and the slide controller's reference after it, and what it keeps of the parts 0 that were read (logs 20, 35, 39); so are that a driver's health stands as last reported, a short of a driver that is now off among them, and raises VALVE_FAULT (logs 28, 42), and that an EMERGENCY order is in transmission at once (log 26). -/
def Obligations.RestartCalledAndTaken : Prop :=
  ∀ s : State,
    exec .restartLineReleased s = .next { s with restartLine := false }
    ∧ (s.powered = true → s.restartLine = true → exec .restartLineAsserted s = .next s)
    ∧ (s.powered = true → s.restartLine = false →
        (s.nv.inFlight.isSome = true ∨ s.ports.restartOwed = true →
          exec .restartLineAsserted s
            = .next { s with restartLine := true, restart := some (s.restart.getD .restartLine) })
        ∧ (s.nv.inFlight = none → s.ports.restartOwed = false →
          ∃ t, exec .restartLineAsserted s = .next t
            ∧ State.Restarted { s with restartLine := true } t (s.restart.getD .restartLine)))
    ∧ (s.powered = true →
        (s.restart = none ∨ s.nv.inFlight.isSome = true ∨ s.ports.restartOwed = true →
          exec .warmRestart s = .next s)
        ∧ (∀ cause, s.restart = some cause → s.nv.inFlight = none → s.ports.restartOwed = false →
          ∃ t, exec .warmRestart s = .next t ∧ s.Restarted t cause))

/-- R122, R134, R135, R146, R149, R158, R184: a power-on reset reads and judges the image, scans the slots and takes the power-on state of every block. That it may find power on, and the values after a reset that no rule gives, are the model's (logs 30, 20, 35, 39); so are that a driver's health stands as last reported, a short of a driver that is now off among them, and raises VALVE_FAULT (logs 28, 42), and that an EMERGENCY order is in transmission at once (log 26). -/
def Obligations.PowerOnResetTaken : Prop :=
  ∀ s : State, ∃ t, exec .powerOnReset s = .next t
    ∧ s.FromReset t []
    ∧ t.time = 0 ∧ t.monitor.distance = 0 ∧ t.monitor.accumulator = 0 ∧ t.lastReset = .powerOn ∧ t.nv = .empty
    ∧ (s.array.image.crcOk = true ∧ s.array.image.live.legal = true ∧ tableOk s.array.image.table = true →
        t.store = ⟨s.array.image.live, s.array.image.state, s.array.image.sequence⟩
        ∧ t.matrix.table = s.array.image.table)
    ∧ (s.array.image.crcOk = false ∨ s.array.image.live.legal = false ∨ tableOk s.array.image.table = false →
        t.store = ⟨ConfigSet.defaults, .defaulted, 0⟩ ∧ t.matrix.table = defaultTable)
    ∧ (∀ d : Fin 8, t.matrix.generalOut[d] = false)
    ∧ t.recorder.ring = [] ∧ t.recorder.marker = some .powerOn
    ∧ (∀ b : Fin 2, (t.recorder.buffers[b]).state = .free)
    ∧ (∀ i : Fin 4, t.recorder.slots[i] = ⟨false, .refAbove, 1, 0, .disarmed⟩)
    ∧ (∀ i : Fin 12, t.recorder.shown[i] = 0)
    ∧ (∀ i : Fin 12,
        (t.recorder.directory[i]).sequence = numberAt (s.array.slots[i]).header 2 4
        ∧ (t.recorder.directory[i]).kind = numberAt (s.array.slots[i]).header 6 1
        ∧ (numberAt (s.array.slots[i]).header 0 1 = 0 →
            (t.recorder.directory[i]).state = .empty ∧ (t.recorder.directory[i]).lock = false)
        ∧ (numberAt (s.array.slots[i]).header 0 1 = 2 →
            (s.array.slots[i]).computedCrc = numberAt (s.array.slots[i]).header 56 2 →
            (t.recorder.directory[i]).state = .sealed
            ∧ ((t.recorder.directory[i]).lock = true ↔ numberAt (s.array.slots[i]).header 1 1 = 1))
        ∧ (numberAt (s.array.slots[i]).header 0 1 ≠ 0 →
            numberAt (s.array.slots[i]).header 0 1 ≠ 2
              ∨ (s.array.slots[i]).computedCrc ≠ numberAt (s.array.slots[i]).header 56 2 →
            (t.recorder.directory[i]).state = .damaged ∧ (t.recorder.directory[i]).lock = false))
    ∧ (∀ i : Fin 12, (∀ j : Fin 12, (t.recorder.directory[j]).sequence ≤ (t.recorder.directory[i]).sequence) →
        (t.recorder.directory[i]).sequence < 4294967295 →
        t.recorder.nextSequence = (t.recorder.directory[i]).sequence + 1)

/-- R132, R134, R139, R140, R142, R183, R187: the loss of power leaves in the array what the rule of the operation in flight says, and every volatile record is lost. What the lost records show without power, the image's form and the unwritten bytes are the model's (logs 7, 12, 8, 9, 10). -/
def Obligations.PowerLossTaken : Prop :=
  ∀ (x : NvProgress) (s : State), s.powered = true →
    ∃ t, exec (.powerLoss x) s = .next t
      ∧ t = { State.reset with
          pending := s.pending, powered := false, array := t.array, draws := t.draws
          emergencyLine := s.emergencyLine, restartLine := s.restartLine
          matrix := { Matrix.unpowered with health := s.matrix.health, loops := s.matrix.loops } }
      ∧ (s.nv.inFlight = none → t.array = s.array)
      ∧ (∀ op h, s.nv.inFlight = some (.service op h) →
          ((∃ w, op = .configStore w) ∨ (∃ ch f, op = .assignStore ch f) →
            t.array = { s.array with image := { s.array.image with crcOk := false } })
          ∧ (∀ slot lock, (∃ n, op = .lock slot n ∧ lock = true) ∨ (op = .unlock slot ∧ lock = false) →
            (x.headerWritten = false → t.array = s.array)
            ∧ (x.headerWritten = true → t.array = { s.array with
                slots := s.array.slots.set slot
                  ⟨(s.array.slots[slot]).header.set 1 (if lock then 1 else 0), (s.array.slots[slot]).body⟩ }))
          ∧ (∀ slot n, op = .erase slot n →
            (h = false → x.headerWritten = false → t.array = s.array)
            ∧ (h = true ∨ x.headerWritten = true →
                t.array = { s.array with slots := s.array.slots.set slot t.array.slots[slot] }
                ∧ (t.array.slots[slot]).body.drop x.bodyBytes = (s.array.slots[slot]).body.drop x.bodyBytes
                ∧ (h = true → (t.array.slots[slot]).header = (s.array.slots[slot]).header)
                ∧ (h = false → numberAt (t.array.slots[slot]).header 0 2 = 0
                    ∧ ((s.array.slots[slot]).header.length = 58 →
                      (t.array.slots[slot]).header.length = 58
                      ∧ numberAt (t.array.slots[slot]).header 2 4 = numberAt (s.array.slots[slot]).header 2 4
                      ∧ numberAt (t.array.slots[slot]).header 6 1 = numberAt (s.array.slots[slot]).header 6 1)))))
      ∧ (∀ b slot autoLock stateWritten, s.nv.inFlight = some (.sealing b slot autoLock stateWritten) →
          (stateWritten = false → x.headerWritten = false → t.array = s.array)
          ∧ (stateWritten = false → x.headerWritten = true →
              t.array = { s.array with slots := s.array.slots.set slot t.array.slots[slot] }
              ∧ ((t.array.slots[slot]).scan).state = .damaged
              ∧ ((t.array.slots[slot]).scan).sequence = (s.recorder.buffers[b]).sequence % 4294967296
              ∧ ((t.array.slots[slot]).scan).kind = (s.recorder.buffers[b]).firstKind
              ∧ (t.array.slots[slot]).body.take x.bodyBytes = (s.recorder.buffers[b]).body.take x.bodyBytes)
          ∧ (stateWritten = true → (autoLock = false ∨ x.headerWritten = false) → t.array = s.array)
          ∧ (stateWritten = true → autoLock = true → x.headerWritten = true →
              t.array = { s.array with
                slots := s.array.slots.set slot (sealedSlot s.recorder.buffers[b] .sealed true) }))

/-- The state after reset: what a power-on reset with neither line asserted leaves of a part whose array has never been written (DESIGN CHOICE, log 5: such an array holds no good image), and the invariants at it. The drop rate and the slide controller's reference are the model's values (logs 20, 35). -/
def Obligations.ResetHolds : Prop :=
  State.reset.FromReset State.reset []
  ∧ State.reset.pending = [] ∧ State.reset.time = 0 ∧ State.reset.monitor.distance = 0
  ∧ State.reset.store = ⟨ConfigSet.defaults, .defaulted, 0⟩ ∧ State.reset.matrix.table = defaultTable
  ∧ State.reset.nv = .empty ∧ State.reset.lastReset = .powerOn
  ∧ State.reset.recorder.ring = [] ∧ State.reset.recorder.nextSequence = 1
  ∧ (∀ i : Fin 12, State.reset.recorder.directory[i] = ⟨.empty, false, 0, 0⟩)
  ∧ ArbiterInv State.reset ∧ ConfigInv State.reset ∧ IncidentInv State.reset
  ∧ OrderInv State.reset ∧ QueueInv State.reset ∧ Bounded State.reset

/-! ### The laws that every step keeps -/

/-- R4, R6, R7: how an entry that leaves IDLE is accepted, and where authority goes when an entry goes IDLE from GOVERNING, HELD or PENDING, from a table that keeps the laws of R3. -/
def Obligations.AuthorityTransitions : Prop :=
  ∀ (a b : Arbiter) (now : Nat) (g : Source), a.Lawful →
    (a.standing g = .idle → b = a.leaveIdle now g →
      b.Lawful ∧ (∀ k, (b.entries.get k).posted = (a.entries.get k).posted ∧ b.inForce k = a.inForce k)
      ∧ (a.authority < sourceLevel g →
          b.governor = some g ∧ b.standing g = .governing ∧ b.authority = sourceLevel g
          ∧ b.stack = a.stack ++ a.governor.toList
          ∧ (∀ k, a.governor = some k → b.standing k = .held)
          ∧ (∀ k, k ≠ g → a.governor ≠ some k → b.standing k = a.standing k))
      ∧ (sourceLevel g ≤ a.authority →
          b.standing g = .pending ∧ b.governor = a.governor ∧ b.authority = a.authority ∧ b.stack = a.stack
          ∧ (∀ k, k ≠ g → b.standing k = a.standing k)))
    ∧ (b = a.goIdle g →
      b.Lawful
      ∧ (a.standing g = .governing →
          b.standing g = .idle ∧ b.authority = (match b.governor with | none => 0 | some k => sourceLevel k)
          ∧ (∀ k, k ≠ g → b.inForce k = a.inForce k)
          ∧ (a.stack = [] → (∀ k, a.standing k ≠ .pending) →
              b.governor = none ∧ b.authority = 0 ∧ b.stack = [])
          ∧ (∀ c, a.standing c = .pending →
              (∀ k, a.standing k = .pending → sourceLevel k ≤ sourceLevel c
                ∧ (sourceLevel k = sourceLevel c → c.number ≤ k.number)) →
              (∀ top, a.stack.getLast? = some top → sourceLevel top < sourceLevel c) →
              b.governor = some c ∧ b.standing c = .governing ∧ b.authority = sourceLevel c ∧ b.stack = a.stack
              ∧ (∀ k, k ≠ g → k ≠ c → b.standing k = a.standing k))
          ∧ (∀ rest top, a.stack = rest ++ [top] →
              (∀ k, a.standing k = .pending → sourceLevel k ≤ sourceLevel top) →
              b.governor = some top ∧ b.standing top = .governing ∧ b.authority = sourceLevel top ∧ b.stack = rest
              ∧ (∀ k, k ≠ g → k ≠ top → b.standing k = a.standing k)))
      ∧ (a.standing g = .held → b.standing g = .idle ∧ b.stack = a.stack.erase g ∧ b.governor = a.governor
          ∧ b.authority = a.authority ∧ (∀ k, k ≠ g → b.standing k = a.standing k))
      ∧ (a.standing g = .pending → b.standing g = .idle ∧ b.stack = a.stack ∧ b.governor = a.governor
          ∧ b.authority = a.authority ∧ (∀ k, k ≠ g → b.standing k = a.standing k)))

/-- R2, R3, R27: the laws of the demand table, and a record rebuilt of it, hold after every step if they hold before it. -/
def Obligations.ArbiterKeepsItsLaws : Prop :=
  ∀ s t : State, ArbiterInv s → step s = .next t → ArbiterInv t

/-- R27: after every command the effective demand record holds, field by field, what the entries of the demand table call for. -/
def Obligations.RecordHoldsTheDemands : Prop :=
  ∀ (c : Instr) (s t : State), ArbiterInv s → exec c s = .next t →
    t.arbiter.record.authority = t.arbiter.authority ∧ t.arbiter.record.authority ≤ 7
    ∧ (∀ g, t.arbiter.record.governor = some g ↔ t.arbiter.standing g = .governing)
    ∧ (∀ (m : Mode) (v : Nat),
        (m, v) = (.blended, t.arbiter.record.blended) ∨ (m, v) = (.airOnly, t.arbiter.record.airFloor) →
        (∀ g, sourceMode g = m → t.arbiter.nonIdle g = true → t.arbiter.inForce g ≤ v)
        ∧ (v = 0 ∨ ∃ g, sourceMode g = m ∧ t.arbiter.nonIdle g = true ∧ t.arbiter.inForce g = v))
    ∧ t.arbiter.record.electricOnly = t.arbiter.inForce .s0
    ∧ t.arbiter.record.emergencyEffort = (if t.arbiter.nonIdle .s8 then t.arbiter.inForce .s8 else 0)
    ∧ t.arbiter.record.bail = (t.arbiter.bail && t.arbiter.gateOpen && decide (t.arbiter.authority ≤ 3))
    ∧ (t.arbiter.record.electricPermitted = false ↔
        t.arbiter.standing .s7 = .governing ∨ t.arbiter.standing .s8 = .governing)
    ∧ t.arbiter.record.emergency = t.arbiter.nonIdle .s8
    ∧ (t.arbiter.record.profile = .emergency ↔ t.arbiter.authority = 7)
    ∧ t.arbiter.record.direction = t.arbiter.direction

/-- R17: S8, S5 and S6 leave the non-idle states only while the standstill flag is set, but through a reset. A command that can take a restart into effect is shut out with the power-on reset, the loss of power and a restart that is pending. -/
def Obligations.PenaltiesEndAtStandstill : Prop :=
  ∀ (c : Instr) (g : Source) (s t : State), ArbiterInv s → exec c s = .next t →
    g = .s8 ∨ g = .s5 ∨ g = .s6 →
    c ≠ .powerOnReset → (∀ x, c ≠ .powerLoss x) → c ≠ .restartLineAsserted → s.restart = none →
    s.arbiter.nonIdle g = true → t.arbiter.nonIdle g = false →
    s.arbiter.standstill = true ∨ t.arbiter.standstill = true

/-- R50, R67, R76, R121, R126, R163, R167: no command touches the queue of commands, a waiting effort order carries the ledger's commands, no port has more than four replies waiting, the histories and lists keep their bounds, and every header in the array its 58 bytes. -/
def Obligations.BoundsAreKept : Prop :=
  ∀ (c : Instr) (s t : State), exec c s = .next t →
    t.pending = s.pending ∧ (OrderInv s → OrderInv t) ∧ (QueueInv s → QueueInv t) ∧ (Bounded s → Bounded t)

/-- R147, R167, R180, R182: the live set stays legal, the channel table one that R147 allows, and one service operation at a time waits or is in flight, with its reply outstanding, after every step as before it. -/
def Obligations.ConfigurationStaysLegal : Prop :=
  ∀ s t : State, ConfigInv s → step s = .next t → ConfigInv t

/-- R133: at most eight slots are locked, only SEALED ones, at most one slot is SEALING and at most one buffer CAPTURING, after every step as before it. -/
def Obligations.IncidentStoreKeepsItsLaws : Prop :=
  ∀ s t : State, ConfigInv s → IncidentInv s → step s = .next t → IncidentInv t
end

