-- ==== Sys2Proof/Laws/State.lean ====
section
/-! SUPPORT. What each shared operation over the state leaves alone: one lemma for each field it does not write. -/

namespace Sys2Proof.Machine

variable (s : State)

/-! ### deliver -/

@[simp] theorem State.deliver_pending (ds : List Instr) : (s.deliver ds).pending = s.pending := rfl
@[simp] theorem State.deliver_powered (ds : List Instr) : (s.deliver ds).powered = s.powered := rfl
@[simp] theorem State.deliver_time (ds : List Instr) : (s.deliver ds).time = s.time := rfl
@[simp] theorem State.deliver_timers (ds : List Instr) : (s.deliver ds).timers = s.timers := rfl
@[simp] theorem State.deliver_emergencyLine (ds : List Instr) : (s.deliver ds).emergencyLine = s.emergencyLine := rfl
@[simp] theorem State.deliver_restartLine (ds : List Instr) : (s.deliver ds).restartLine = s.restartLine := rfl
@[simp] theorem State.deliver_arbiter (ds : List Instr) : (s.deliver ds).arbiter = s.arbiter := rfl
@[simp] theorem State.deliver_ledger (ds : List Instr) : (s.deliver ds).ledger = s.ledger := rfl
@[simp] theorem State.deliver_loops (ds : List Instr) : (s.deliver ds).loops = s.loops := rfl
@[simp] theorem State.deliver_watch (ds : List Instr) : (s.deliver ds).watch = s.watch := rfl
@[simp] theorem State.deliver_monitor (ds : List Instr) : (s.deliver ds).monitor = s.monitor := rfl
@[simp] theorem State.deliver_slide (ds : List Instr) : (s.deliver ds).slide = s.slide := rfl
@[simp] theorem State.deliver_recorder (ds : List Instr) : (s.deliver ds).recorder = s.recorder := rfl
@[simp] theorem State.deliver_matrix (ds : List Instr) : (s.deliver ds).matrix = s.matrix := rfl
@[simp] theorem State.deliver_ports (ds : List Instr) : (s.deliver ds).ports = s.ports := rfl
@[simp] theorem State.deliver_store (ds : List Instr) : (s.deliver ds).store = s.store := rfl
@[simp] theorem State.deliver_nv (ds : List Instr) : (s.deliver ds).nv = s.nv := rfl
@[simp] theorem State.deliver_array (ds : List Instr) : (s.deliver ds).array = s.array := rfl
@[simp] theorem State.deliver_restart (ds : List Instr) : (s.deliver ds).restart = s.restart := rfl
@[simp] theorem State.deliver_lastReset (ds : List Instr) : (s.deliver ds).lastReset = s.lastReset := rfl
@[simp] theorem State.deliver_draws (ds : List Instr) : (s.deliver ds).draws = s.draws := rfl

/-! ### arbiterEvent -/

@[simp] theorem State.arbiterEvent_pending (f : Arbiter → Arbiter) : (s.arbiterEvent f).pending = s.pending := rfl
@[simp] theorem State.arbiterEvent_powered (f : Arbiter → Arbiter) : (s.arbiterEvent f).powered = s.powered := rfl
@[simp] theorem State.arbiterEvent_time (f : Arbiter → Arbiter) : (s.arbiterEvent f).time = s.time := rfl
@[simp] theorem State.arbiterEvent_timers (f : Arbiter → Arbiter) : (s.arbiterEvent f).timers = s.timers := rfl
@[simp] theorem State.arbiterEvent_emergencyLine (f : Arbiter → Arbiter) : (s.arbiterEvent f).emergencyLine = s.emergencyLine := rfl
@[simp] theorem State.arbiterEvent_restartLine (f : Arbiter → Arbiter) : (s.arbiterEvent f).restartLine = s.restartLine := rfl
@[simp] theorem State.arbiterEvent_ledger (f : Arbiter → Arbiter) : (s.arbiterEvent f).ledger = s.ledger := rfl
@[simp] theorem State.arbiterEvent_loops (f : Arbiter → Arbiter) : (s.arbiterEvent f).loops = s.loops := rfl
@[simp] theorem State.arbiterEvent_watch (f : Arbiter → Arbiter) : (s.arbiterEvent f).watch = s.watch := rfl
@[simp] theorem State.arbiterEvent_monitor (f : Arbiter → Arbiter) : (s.arbiterEvent f).monitor = s.monitor := rfl
@[simp] theorem State.arbiterEvent_slide (f : Arbiter → Arbiter) : (s.arbiterEvent f).slide = s.slide := rfl
@[simp] theorem State.arbiterEvent_recorder (f : Arbiter → Arbiter) : (s.arbiterEvent f).recorder = s.recorder := rfl
@[simp] theorem State.arbiterEvent_ports (f : Arbiter → Arbiter) : (s.arbiterEvent f).ports = s.ports := rfl
@[simp] theorem State.arbiterEvent_store (f : Arbiter → Arbiter) : (s.arbiterEvent f).store = s.store := rfl
@[simp] theorem State.arbiterEvent_nv (f : Arbiter → Arbiter) : (s.arbiterEvent f).nv = s.nv := rfl
@[simp] theorem State.arbiterEvent_array (f : Arbiter → Arbiter) : (s.arbiterEvent f).array = s.array := rfl
@[simp] theorem State.arbiterEvent_restart (f : Arbiter → Arbiter) : (s.arbiterEvent f).restart = s.restart := rfl
@[simp] theorem State.arbiterEvent_lastReset (f : Arbiter → Arbiter) : (s.arbiterEvent f).lastReset = s.lastReset := rfl
@[simp] theorem State.arbiterEvent_draws (f : Arbiter → Arbiter) : (s.arbiterEvent f).draws = s.draws := rfl

/-! ### clampNotice -/

@[simp] theorem State.clampNotice_pending (c : Bool) : (s.clampNotice c).pending = s.pending := rfl
@[simp] theorem State.clampNotice_deliveries (c : Bool) : (s.clampNotice c).deliveries = s.deliveries := rfl
@[simp] theorem State.clampNotice_powered (c : Bool) : (s.clampNotice c).powered = s.powered := rfl
@[simp] theorem State.clampNotice_time (c : Bool) : (s.clampNotice c).time = s.time := rfl
@[simp] theorem State.clampNotice_timers (c : Bool) : (s.clampNotice c).timers = s.timers := rfl
@[simp] theorem State.clampNotice_emergencyLine (c : Bool) : (s.clampNotice c).emergencyLine = s.emergencyLine := rfl
@[simp] theorem State.clampNotice_restartLine (c : Bool) : (s.clampNotice c).restartLine = s.restartLine := rfl
@[simp] theorem State.clampNotice_arbiter (c : Bool) : (s.clampNotice c).arbiter = s.arbiter := rfl
@[simp] theorem State.clampNotice_loops (c : Bool) : (s.clampNotice c).loops = s.loops := rfl
@[simp] theorem State.clampNotice_watch (c : Bool) : (s.clampNotice c).watch = s.watch := rfl
@[simp] theorem State.clampNotice_monitor (c : Bool) : (s.clampNotice c).monitor = s.monitor := rfl
@[simp] theorem State.clampNotice_slide (c : Bool) : (s.clampNotice c).slide = s.slide := rfl
@[simp] theorem State.clampNotice_recorder (c : Bool) : (s.clampNotice c).recorder = s.recorder := rfl
@[simp] theorem State.clampNotice_matrix (c : Bool) : (s.clampNotice c).matrix = s.matrix := rfl
@[simp] theorem State.clampNotice_ports (c : Bool) : (s.clampNotice c).ports = s.ports := rfl
@[simp] theorem State.clampNotice_store (c : Bool) : (s.clampNotice c).store = s.store := rfl
@[simp] theorem State.clampNotice_nv (c : Bool) : (s.clampNotice c).nv = s.nv := rfl
@[simp] theorem State.clampNotice_array (c : Bool) : (s.clampNotice c).array = s.array := rfl
@[simp] theorem State.clampNotice_restart (c : Bool) : (s.clampNotice c).restart = s.restart := rfl
@[simp] theorem State.clampNotice_lastReset (c : Bool) : (s.clampNotice c).lastReset = s.lastReset := rfl
@[simp] theorem State.clampNotice_draws (c : Bool) : (s.clampNotice c).draws = s.draws := rfl

/-! ### order -/

@[simp] theorem State.order_pending (r : OrderReason) : (s.order r).pending = s.pending := rfl
@[simp] theorem State.order_deliveries (r : OrderReason) : (s.order r).deliveries = s.deliveries := rfl
@[simp] theorem State.order_powered (r : OrderReason) : (s.order r).powered = s.powered := rfl
@[simp] theorem State.order_time (r : OrderReason) : (s.order r).time = s.time := rfl
@[simp] theorem State.order_timers (r : OrderReason) : (s.order r).timers = s.timers := rfl
@[simp] theorem State.order_emergencyLine (r : OrderReason) : (s.order r).emergencyLine = s.emergencyLine := rfl
@[simp] theorem State.order_restartLine (r : OrderReason) : (s.order r).restartLine = s.restartLine := rfl
@[simp] theorem State.order_arbiter (r : OrderReason) : (s.order r).arbiter = s.arbiter := rfl
@[simp] theorem State.order_loops (r : OrderReason) : (s.order r).loops = s.loops := rfl
@[simp] theorem State.order_watch (r : OrderReason) : (s.order r).watch = s.watch := rfl
@[simp] theorem State.order_monitor (r : OrderReason) : (s.order r).monitor = s.monitor := rfl
@[simp] theorem State.order_slide (r : OrderReason) : (s.order r).slide = s.slide := rfl
@[simp] theorem State.order_recorder (r : OrderReason) : (s.order r).recorder = s.recorder := rfl
@[simp] theorem State.order_matrix (r : OrderReason) : (s.order r).matrix = s.matrix := rfl
@[simp] theorem State.order_store (r : OrderReason) : (s.order r).store = s.store := rfl
@[simp] theorem State.order_nv (r : OrderReason) : (s.order r).nv = s.nv := rfl
@[simp] theorem State.order_array (r : OrderReason) : (s.order r).array = s.array := rfl
@[simp] theorem State.order_restart (r : OrderReason) : (s.order r).restart = s.restart := rfl
@[simp] theorem State.order_lastReset (r : OrderReason) : (s.order r).lastReset = s.lastReset := rfl
@[simp] theorem State.order_draws (r : OrderReason) : (s.order r).draws = s.draws := rfl

/-! ### emergencyOrder -/

@[simp] theorem State.emergencyOrder_pending : (s.emergencyOrder).pending = s.pending := rfl
@[simp] theorem State.emergencyOrder_deliveries : (s.emergencyOrder).deliveries = s.deliveries := rfl
@[simp] theorem State.emergencyOrder_powered : (s.emergencyOrder).powered = s.powered := rfl
@[simp] theorem State.emergencyOrder_time : (s.emergencyOrder).time = s.time := rfl
@[simp] theorem State.emergencyOrder_timers : (s.emergencyOrder).timers = s.timers := rfl
@[simp] theorem State.emergencyOrder_emergencyLine : (s.emergencyOrder).emergencyLine = s.emergencyLine := rfl
@[simp] theorem State.emergencyOrder_restartLine : (s.emergencyOrder).restartLine = s.restartLine := rfl
@[simp] theorem State.emergencyOrder_arbiter : (s.emergencyOrder).arbiter = s.arbiter := rfl
@[simp] theorem State.emergencyOrder_loops : (s.emergencyOrder).loops = s.loops := rfl
@[simp] theorem State.emergencyOrder_watch : (s.emergencyOrder).watch = s.watch := rfl
@[simp] theorem State.emergencyOrder_monitor : (s.emergencyOrder).monitor = s.monitor := rfl
@[simp] theorem State.emergencyOrder_slide : (s.emergencyOrder).slide = s.slide := rfl
@[simp] theorem State.emergencyOrder_recorder : (s.emergencyOrder).recorder = s.recorder := rfl
@[simp] theorem State.emergencyOrder_matrix : (s.emergencyOrder).matrix = s.matrix := rfl
@[simp] theorem State.emergencyOrder_store : (s.emergencyOrder).store = s.store := rfl
@[simp] theorem State.emergencyOrder_nv : (s.emergencyOrder).nv = s.nv := rfl
@[simp] theorem State.emergencyOrder_array : (s.emergencyOrder).array = s.array := rfl
@[simp] theorem State.emergencyOrder_restart : (s.emergencyOrder).restart = s.restart := rfl
@[simp] theorem State.emergencyOrder_lastReset : (s.emergencyOrder).lastReset = s.lastReset := rfl
@[simp] theorem State.emergencyOrder_draws : (s.emergencyOrder).draws = s.draws := rfl

/-! ### reply -/

@[simp] theorem State.reply_pending (p : PortId) (k : Byte) (r : Result) (d : List Byte) : (s.reply p k r d).pending = s.pending := rfl
@[simp] theorem State.reply_deliveries (p : PortId) (k : Byte) (r : Result) (d : List Byte) : (s.reply p k r d).deliveries = s.deliveries := rfl
@[simp] theorem State.reply_powered (p : PortId) (k : Byte) (r : Result) (d : List Byte) : (s.reply p k r d).powered = s.powered := rfl
@[simp] theorem State.reply_time (p : PortId) (k : Byte) (r : Result) (d : List Byte) : (s.reply p k r d).time = s.time := rfl
@[simp] theorem State.reply_timers (p : PortId) (k : Byte) (r : Result) (d : List Byte) : (s.reply p k r d).timers = s.timers := rfl
@[simp] theorem State.reply_emergencyLine (p : PortId) (k : Byte) (r : Result) (d : List Byte) : (s.reply p k r d).emergencyLine = s.emergencyLine := rfl
@[simp] theorem State.reply_restartLine (p : PortId) (k : Byte) (r : Result) (d : List Byte) : (s.reply p k r d).restartLine = s.restartLine := rfl
@[simp] theorem State.reply_arbiter (p : PortId) (k : Byte) (r : Result) (d : List Byte) : (s.reply p k r d).arbiter = s.arbiter := rfl
@[simp] theorem State.reply_ledger (p : PortId) (k : Byte) (r : Result) (d : List Byte) : (s.reply p k r d).ledger = s.ledger := rfl
@[simp] theorem State.reply_loops (p : PortId) (k : Byte) (r : Result) (d : List Byte) : (s.reply p k r d).loops = s.loops := rfl
@[simp] theorem State.reply_watch (p : PortId) (k : Byte) (r : Result) (d : List Byte) : (s.reply p k r d).watch = s.watch := rfl
@[simp] theorem State.reply_monitor (p : PortId) (k : Byte) (r : Result) (d : List Byte) : (s.reply p k r d).monitor = s.monitor := rfl
@[simp] theorem State.reply_slide (p : PortId) (k : Byte) (r : Result) (d : List Byte) : (s.reply p k r d).slide = s.slide := rfl
@[simp] theorem State.reply_recorder (p : PortId) (k : Byte) (r : Result) (d : List Byte) : (s.reply p k r d).recorder = s.recorder := rfl
@[simp] theorem State.reply_matrix (p : PortId) (k : Byte) (r : Result) (d : List Byte) : (s.reply p k r d).matrix = s.matrix := rfl
@[simp] theorem State.reply_store (p : PortId) (k : Byte) (r : Result) (d : List Byte) : (s.reply p k r d).store = s.store := rfl
@[simp] theorem State.reply_nv (p : PortId) (k : Byte) (r : Result) (d : List Byte) : (s.reply p k r d).nv = s.nv := rfl
@[simp] theorem State.reply_array (p : PortId) (k : Byte) (r : Result) (d : List Byte) : (s.reply p k r d).array = s.array := rfl
@[simp] theorem State.reply_restart (p : PortId) (k : Byte) (r : Result) (d : List Byte) : (s.reply p k r d).restart = s.restart := rfl
@[simp] theorem State.reply_lastReset (p : PortId) (k : Byte) (r : Result) (d : List Byte) : (s.reply p k r d).lastReset = s.lastReset := rfl
@[simp] theorem State.reply_draws (p : PortId) (k : Byte) (r : Result) (d : List Byte) : (s.reply p k r d).draws = s.draws := rfl

/-! ### withAssembly -/

@[simp] theorem State.withAssembly_pending (p : PortId) (a : Assembly) : (s.withAssembly p a).pending = s.pending := rfl
@[simp] theorem State.withAssembly_deliveries (p : PortId) (a : Assembly) : (s.withAssembly p a).deliveries = s.deliveries := rfl
@[simp] theorem State.withAssembly_powered (p : PortId) (a : Assembly) : (s.withAssembly p a).powered = s.powered := rfl
@[simp] theorem State.withAssembly_time (p : PortId) (a : Assembly) : (s.withAssembly p a).time = s.time := rfl
@[simp] theorem State.withAssembly_timers (p : PortId) (a : Assembly) : (s.withAssembly p a).timers = s.timers := rfl
@[simp] theorem State.withAssembly_emergencyLine (p : PortId) (a : Assembly) : (s.withAssembly p a).emergencyLine = s.emergencyLine := rfl
@[simp] theorem State.withAssembly_restartLine (p : PortId) (a : Assembly) : (s.withAssembly p a).restartLine = s.restartLine := rfl
@[simp] theorem State.withAssembly_arbiter (p : PortId) (a : Assembly) : (s.withAssembly p a).arbiter = s.arbiter := rfl
@[simp] theorem State.withAssembly_ledger (p : PortId) (a : Assembly) : (s.withAssembly p a).ledger = s.ledger := rfl
@[simp] theorem State.withAssembly_loops (p : PortId) (a : Assembly) : (s.withAssembly p a).loops = s.loops := rfl
@[simp] theorem State.withAssembly_watch (p : PortId) (a : Assembly) : (s.withAssembly p a).watch = s.watch := rfl
@[simp] theorem State.withAssembly_monitor (p : PortId) (a : Assembly) : (s.withAssembly p a).monitor = s.monitor := rfl
@[simp] theorem State.withAssembly_slide (p : PortId) (a : Assembly) : (s.withAssembly p a).slide = s.slide := rfl
@[simp] theorem State.withAssembly_recorder (p : PortId) (a : Assembly) : (s.withAssembly p a).recorder = s.recorder := rfl
@[simp] theorem State.withAssembly_matrix (p : PortId) (a : Assembly) : (s.withAssembly p a).matrix = s.matrix := rfl
@[simp] theorem State.withAssembly_store (p : PortId) (a : Assembly) : (s.withAssembly p a).store = s.store := rfl
@[simp] theorem State.withAssembly_nv (p : PortId) (a : Assembly) : (s.withAssembly p a).nv = s.nv := rfl
@[simp] theorem State.withAssembly_array (p : PortId) (a : Assembly) : (s.withAssembly p a).array = s.array := rfl
@[simp] theorem State.withAssembly_restart (p : PortId) (a : Assembly) : (s.withAssembly p a).restart = s.restart := rfl
@[simp] theorem State.withAssembly_lastReset (p : PortId) (a : Assembly) : (s.withAssembly p a).lastReset = s.lastReset := rfl
@[simp] theorem State.withAssembly_draws (p : PortId) (a : Assembly) : (s.withAssembly p a).draws = s.draws := rfl

/-! ### withLoops -/

@[simp] theorem State.withLoops_pending (l : LoopCurrents) : (s.withLoops l).pending = s.pending := rfl
@[simp] theorem State.withLoops_deliveries (l : LoopCurrents) : (s.withLoops l).deliveries = s.deliveries := rfl
@[simp] theorem State.withLoops_powered (l : LoopCurrents) : (s.withLoops l).powered = s.powered := rfl
@[simp] theorem State.withLoops_time (l : LoopCurrents) : (s.withLoops l).time = s.time := rfl
@[simp] theorem State.withLoops_timers (l : LoopCurrents) : (s.withLoops l).timers = s.timers := rfl
@[simp] theorem State.withLoops_emergencyLine (l : LoopCurrents) : (s.withLoops l).emergencyLine = s.emergencyLine := rfl
@[simp] theorem State.withLoops_restartLine (l : LoopCurrents) : (s.withLoops l).restartLine = s.restartLine := rfl
@[simp] theorem State.withLoops_arbiter (l : LoopCurrents) : (s.withLoops l).arbiter = s.arbiter := rfl
@[simp] theorem State.withLoops_ledger (l : LoopCurrents) : (s.withLoops l).ledger = s.ledger := rfl
@[simp] theorem State.withLoops_loops (l : LoopCurrents) : (s.withLoops l).loops = s.loops := rfl
@[simp] theorem State.withLoops_watch (l : LoopCurrents) : (s.withLoops l).watch = s.watch := rfl
@[simp] theorem State.withLoops_monitor (l : LoopCurrents) : (s.withLoops l).monitor = s.monitor := rfl
@[simp] theorem State.withLoops_slide (l : LoopCurrents) : (s.withLoops l).slide = s.slide := rfl
@[simp] theorem State.withLoops_recorder (l : LoopCurrents) : (s.withLoops l).recorder = s.recorder := rfl
@[simp] theorem State.withLoops_ports (l : LoopCurrents) : (s.withLoops l).ports = s.ports := rfl
@[simp] theorem State.withLoops_store (l : LoopCurrents) : (s.withLoops l).store = s.store := rfl
@[simp] theorem State.withLoops_nv (l : LoopCurrents) : (s.withLoops l).nv = s.nv := rfl
@[simp] theorem State.withLoops_array (l : LoopCurrents) : (s.withLoops l).array = s.array := rfl
@[simp] theorem State.withLoops_restart (l : LoopCurrents) : (s.withLoops l).restart = s.restart := rfl
@[simp] theorem State.withLoops_lastReset (l : LoopCurrents) : (s.withLoops l).lastReset = s.lastReset := rfl
@[simp] theorem State.withLoops_draws (l : LoopCurrents) : (s.withLoops l).draws = s.draws := rfl

/-! ### arrive -/

@[simp] theorem State.arrive_pending (t : Trigger) : (s.arrive t).pending = s.pending := rfl
@[simp] theorem State.arrive_deliveries (t : Trigger) : (s.arrive t).deliveries = s.deliveries := rfl
@[simp] theorem State.arrive_powered (t : Trigger) : (s.arrive t).powered = s.powered := rfl
@[simp] theorem State.arrive_time (t : Trigger) : (s.arrive t).time = s.time := rfl
@[simp] theorem State.arrive_timers (t : Trigger) : (s.arrive t).timers = s.timers := rfl
@[simp] theorem State.arrive_emergencyLine (t : Trigger) : (s.arrive t).emergencyLine = s.emergencyLine := rfl
@[simp] theorem State.arrive_restartLine (t : Trigger) : (s.arrive t).restartLine = s.restartLine := rfl
@[simp] theorem State.arrive_arbiter (t : Trigger) : (s.arrive t).arbiter = s.arbiter := rfl
@[simp] theorem State.arrive_ledger (t : Trigger) : (s.arrive t).ledger = s.ledger := rfl
@[simp] theorem State.arrive_loops (t : Trigger) : (s.arrive t).loops = s.loops := rfl
@[simp] theorem State.arrive_watch (t : Trigger) : (s.arrive t).watch = s.watch := rfl
@[simp] theorem State.arrive_monitor (t : Trigger) : (s.arrive t).monitor = s.monitor := rfl
@[simp] theorem State.arrive_slide (t : Trigger) : (s.arrive t).slide = s.slide := rfl
@[simp] theorem State.arrive_matrix (t : Trigger) : (s.arrive t).matrix = s.matrix := rfl
@[simp] theorem State.arrive_ports (t : Trigger) : (s.arrive t).ports = s.ports := rfl
@[simp] theorem State.arrive_store (t : Trigger) : (s.arrive t).store = s.store := rfl
@[simp] theorem State.arrive_nv (t : Trigger) : (s.arrive t).nv = s.nv := rfl
@[simp] theorem State.arrive_array (t : Trigger) : (s.arrive t).array = s.array := rfl
@[simp] theorem State.arrive_restart (t : Trigger) : (s.arrive t).restart = s.restart := rfl
@[simp] theorem State.arrive_lastReset (t : Trigger) : (s.arrive t).lastReset = s.lastReset := rfl

/-! ### writeSlot -/

@[simp] theorem State.writeSlot_pending (i : Fin 12) (x : NvSlot) : (s.writeSlot i x).pending = s.pending := rfl
@[simp] theorem State.writeSlot_deliveries (i : Fin 12) (x : NvSlot) : (s.writeSlot i x).deliveries = s.deliveries := rfl
@[simp] theorem State.writeSlot_powered (i : Fin 12) (x : NvSlot) : (s.writeSlot i x).powered = s.powered := rfl
@[simp] theorem State.writeSlot_time (i : Fin 12) (x : NvSlot) : (s.writeSlot i x).time = s.time := rfl
@[simp] theorem State.writeSlot_timers (i : Fin 12) (x : NvSlot) : (s.writeSlot i x).timers = s.timers := rfl
@[simp] theorem State.writeSlot_emergencyLine (i : Fin 12) (x : NvSlot) : (s.writeSlot i x).emergencyLine = s.emergencyLine := rfl
@[simp] theorem State.writeSlot_restartLine (i : Fin 12) (x : NvSlot) : (s.writeSlot i x).restartLine = s.restartLine := rfl
@[simp] theorem State.writeSlot_arbiter (i : Fin 12) (x : NvSlot) : (s.writeSlot i x).arbiter = s.arbiter := rfl
@[simp] theorem State.writeSlot_ledger (i : Fin 12) (x : NvSlot) : (s.writeSlot i x).ledger = s.ledger := rfl
@[simp] theorem State.writeSlot_loops (i : Fin 12) (x : NvSlot) : (s.writeSlot i x).loops = s.loops := rfl
@[simp] theorem State.writeSlot_watch (i : Fin 12) (x : NvSlot) : (s.writeSlot i x).watch = s.watch := rfl
@[simp] theorem State.writeSlot_monitor (i : Fin 12) (x : NvSlot) : (s.writeSlot i x).monitor = s.monitor := rfl
@[simp] theorem State.writeSlot_slide (i : Fin 12) (x : NvSlot) : (s.writeSlot i x).slide = s.slide := rfl
@[simp] theorem State.writeSlot_recorder (i : Fin 12) (x : NvSlot) : (s.writeSlot i x).recorder = s.recorder := rfl
@[simp] theorem State.writeSlot_matrix (i : Fin 12) (x : NvSlot) : (s.writeSlot i x).matrix = s.matrix := rfl
@[simp] theorem State.writeSlot_ports (i : Fin 12) (x : NvSlot) : (s.writeSlot i x).ports = s.ports := rfl
@[simp] theorem State.writeSlot_store (i : Fin 12) (x : NvSlot) : (s.writeSlot i x).store = s.store := rfl
@[simp] theorem State.writeSlot_nv (i : Fin 12) (x : NvSlot) : (s.writeSlot i x).nv = s.nv := rfl
@[simp] theorem State.writeSlot_restart (i : Fin 12) (x : NvSlot) : (s.writeSlot i x).restart = s.restart := rfl
@[simp] theorem State.writeSlot_lastReset (i : Fin 12) (x : NvSlot) : (s.writeSlot i x).lastReset = s.lastReset := rfl
@[simp] theorem State.writeSlot_draws (i : Fin 12) (x : NvSlot) : (s.writeSlot i x).draws = s.draws := rfl

/-! ### withEntry -/

@[simp] theorem State.withEntry_pending (i : Fin 12) (e : DirEntry) : (s.withEntry i e).pending = s.pending := rfl
@[simp] theorem State.withEntry_deliveries (i : Fin 12) (e : DirEntry) : (s.withEntry i e).deliveries = s.deliveries := rfl
@[simp] theorem State.withEntry_powered (i : Fin 12) (e : DirEntry) : (s.withEntry i e).powered = s.powered := rfl
@[simp] theorem State.withEntry_time (i : Fin 12) (e : DirEntry) : (s.withEntry i e).time = s.time := rfl
@[simp] theorem State.withEntry_timers (i : Fin 12) (e : DirEntry) : (s.withEntry i e).timers = s.timers := rfl
@[simp] theorem State.withEntry_emergencyLine (i : Fin 12) (e : DirEntry) : (s.withEntry i e).emergencyLine = s.emergencyLine := rfl
@[simp] theorem State.withEntry_restartLine (i : Fin 12) (e : DirEntry) : (s.withEntry i e).restartLine = s.restartLine := rfl
@[simp] theorem State.withEntry_arbiter (i : Fin 12) (e : DirEntry) : (s.withEntry i e).arbiter = s.arbiter := rfl
@[simp] theorem State.withEntry_ledger (i : Fin 12) (e : DirEntry) : (s.withEntry i e).ledger = s.ledger := rfl
@[simp] theorem State.withEntry_loops (i : Fin 12) (e : DirEntry) : (s.withEntry i e).loops = s.loops := rfl
@[simp] theorem State.withEntry_watch (i : Fin 12) (e : DirEntry) : (s.withEntry i e).watch = s.watch := rfl
@[simp] theorem State.withEntry_monitor (i : Fin 12) (e : DirEntry) : (s.withEntry i e).monitor = s.monitor := rfl
@[simp] theorem State.withEntry_slide (i : Fin 12) (e : DirEntry) : (s.withEntry i e).slide = s.slide := rfl
@[simp] theorem State.withEntry_matrix (i : Fin 12) (e : DirEntry) : (s.withEntry i e).matrix = s.matrix := rfl
@[simp] theorem State.withEntry_ports (i : Fin 12) (e : DirEntry) : (s.withEntry i e).ports = s.ports := rfl
@[simp] theorem State.withEntry_store (i : Fin 12) (e : DirEntry) : (s.withEntry i e).store = s.store := rfl
@[simp] theorem State.withEntry_nv (i : Fin 12) (e : DirEntry) : (s.withEntry i e).nv = s.nv := rfl
@[simp] theorem State.withEntry_array (i : Fin 12) (e : DirEntry) : (s.withEntry i e).array = s.array := rfl
@[simp] theorem State.withEntry_restart (i : Fin 12) (e : DirEntry) : (s.withEntry i e).restart = s.restart := rfl
@[simp] theorem State.withEntry_lastReset (i : Fin 12) (e : DirEntry) : (s.withEntry i e).lastReset = s.lastReset := rfl
@[simp] theorem State.withEntry_draws (i : Fin 12) (e : DirEntry) : (s.withEntry i e).draws = s.draws := rfl

/-! ### withBuffer -/

@[simp] theorem State.withBuffer_pending (i : Fin 2) (b : Buffer) : (s.withBuffer i b).pending = s.pending := rfl
@[simp] theorem State.withBuffer_deliveries (i : Fin 2) (b : Buffer) : (s.withBuffer i b).deliveries = s.deliveries := rfl
@[simp] theorem State.withBuffer_powered (i : Fin 2) (b : Buffer) : (s.withBuffer i b).powered = s.powered := rfl
@[simp] theorem State.withBuffer_time (i : Fin 2) (b : Buffer) : (s.withBuffer i b).time = s.time := rfl
@[simp] theorem State.withBuffer_timers (i : Fin 2) (b : Buffer) : (s.withBuffer i b).timers = s.timers := rfl
@[simp] theorem State.withBuffer_emergencyLine (i : Fin 2) (b : Buffer) : (s.withBuffer i b).emergencyLine = s.emergencyLine := rfl
@[simp] theorem State.withBuffer_restartLine (i : Fin 2) (b : Buffer) : (s.withBuffer i b).restartLine = s.restartLine := rfl
@[simp] theorem State.withBuffer_arbiter (i : Fin 2) (b : Buffer) : (s.withBuffer i b).arbiter = s.arbiter := rfl
@[simp] theorem State.withBuffer_ledger (i : Fin 2) (b : Buffer) : (s.withBuffer i b).ledger = s.ledger := rfl
@[simp] theorem State.withBuffer_loops (i : Fin 2) (b : Buffer) : (s.withBuffer i b).loops = s.loops := rfl
@[simp] theorem State.withBuffer_watch (i : Fin 2) (b : Buffer) : (s.withBuffer i b).watch = s.watch := rfl
@[simp] theorem State.withBuffer_monitor (i : Fin 2) (b : Buffer) : (s.withBuffer i b).monitor = s.monitor := rfl
@[simp] theorem State.withBuffer_slide (i : Fin 2) (b : Buffer) : (s.withBuffer i b).slide = s.slide := rfl
@[simp] theorem State.withBuffer_matrix (i : Fin 2) (b : Buffer) : (s.withBuffer i b).matrix = s.matrix := rfl
@[simp] theorem State.withBuffer_ports (i : Fin 2) (b : Buffer) : (s.withBuffer i b).ports = s.ports := rfl
@[simp] theorem State.withBuffer_store (i : Fin 2) (b : Buffer) : (s.withBuffer i b).store = s.store := rfl
@[simp] theorem State.withBuffer_nv (i : Fin 2) (b : Buffer) : (s.withBuffer i b).nv = s.nv := rfl
@[simp] theorem State.withBuffer_array (i : Fin 2) (b : Buffer) : (s.withBuffer i b).array = s.array := rfl
@[simp] theorem State.withBuffer_restart (i : Fin 2) (b : Buffer) : (s.withBuffer i b).restart = s.restart := rfl
@[simp] theorem State.withBuffer_lastReset (i : Fin 2) (b : Buffer) : (s.withBuffer i b).lastReset = s.lastReset := rfl
@[simp] theorem State.withBuffer_draws (i : Fin 2) (b : Buffer) : (s.withBuffer i b).draws = s.draws := rfl

/-! ### writeImage -/

@[simp] theorem State.writeImage_pending : (s.writeImage).pending = s.pending := rfl
@[simp] theorem State.writeImage_deliveries : (s.writeImage).deliveries = s.deliveries := rfl
@[simp] theorem State.writeImage_powered : (s.writeImage).powered = s.powered := rfl
@[simp] theorem State.writeImage_time : (s.writeImage).time = s.time := rfl
@[simp] theorem State.writeImage_timers : (s.writeImage).timers = s.timers := rfl
@[simp] theorem State.writeImage_emergencyLine : (s.writeImage).emergencyLine = s.emergencyLine := rfl
@[simp] theorem State.writeImage_restartLine : (s.writeImage).restartLine = s.restartLine := rfl
@[simp] theorem State.writeImage_arbiter : (s.writeImage).arbiter = s.arbiter := rfl
@[simp] theorem State.writeImage_ledger : (s.writeImage).ledger = s.ledger := rfl
@[simp] theorem State.writeImage_loops : (s.writeImage).loops = s.loops := rfl
@[simp] theorem State.writeImage_watch : (s.writeImage).watch = s.watch := rfl
@[simp] theorem State.writeImage_monitor : (s.writeImage).monitor = s.monitor := rfl
@[simp] theorem State.writeImage_slide : (s.writeImage).slide = s.slide := rfl
@[simp] theorem State.writeImage_recorder : (s.writeImage).recorder = s.recorder := rfl
@[simp] theorem State.writeImage_matrix : (s.writeImage).matrix = s.matrix := rfl
@[simp] theorem State.writeImage_ports : (s.writeImage).ports = s.ports := rfl
@[simp] theorem State.writeImage_store : (s.writeImage).store = s.store := rfl
@[simp] theorem State.writeImage_nv : (s.writeImage).nv = s.nv := rfl
@[simp] theorem State.writeImage_restart : (s.writeImage).restart = s.restart := rfl
@[simp] theorem State.writeImage_lastReset : (s.writeImage).lastReset = s.lastReset := rfl
@[simp] theorem State.writeImage_draws : (s.writeImage).draws = s.draws := rfl

/-! ### refreshLink -/

@[simp] theorem State.refreshLink_pending (m : Master) : (s.refreshLink m).pending = s.pending := by unfold State.refreshLink; dsimp only; split; rfl; cases m <;> rfl
@[simp] theorem State.refreshLink_powered (m : Master) : (s.refreshLink m).powered = s.powered := by unfold State.refreshLink; dsimp only; split; rfl; cases m <;> rfl
@[simp] theorem State.refreshLink_time (m : Master) : (s.refreshLink m).time = s.time := by unfold State.refreshLink; dsimp only; split; rfl; cases m <;> rfl
@[simp] theorem State.refreshLink_timers (m : Master) : (s.refreshLink m).timers = s.timers := by unfold State.refreshLink; dsimp only; split; rfl; cases m <;> rfl
@[simp] theorem State.refreshLink_emergencyLine (m : Master) : (s.refreshLink m).emergencyLine = s.emergencyLine := by unfold State.refreshLink; dsimp only; split; rfl; cases m <;> rfl
@[simp] theorem State.refreshLink_restartLine (m : Master) : (s.refreshLink m).restartLine = s.restartLine := by unfold State.refreshLink; dsimp only; split; rfl; cases m <;> rfl
@[simp] theorem State.refreshLink_ledger (m : Master) : (s.refreshLink m).ledger = s.ledger := by unfold State.refreshLink; dsimp only; split; rfl; cases m <;> rfl
@[simp] theorem State.refreshLink_loops (m : Master) : (s.refreshLink m).loops = s.loops := by unfold State.refreshLink; dsimp only; split; rfl; cases m <;> rfl
@[simp] theorem State.refreshLink_watch (m : Master) : (s.refreshLink m).watch = s.watch := by unfold State.refreshLink; dsimp only; split; rfl; cases m <;> rfl
@[simp] theorem State.refreshLink_monitor (m : Master) : (s.refreshLink m).monitor = s.monitor := by unfold State.refreshLink; dsimp only; split; rfl; cases m <;> rfl
@[simp] theorem State.refreshLink_slide (m : Master) : (s.refreshLink m).slide = s.slide := by unfold State.refreshLink; dsimp only; split; rfl; cases m <;> rfl
@[simp] theorem State.refreshLink_recorder (m : Master) : (s.refreshLink m).recorder = s.recorder := by unfold State.refreshLink; dsimp only; split; rfl; cases m <;> rfl
@[simp] theorem State.refreshLink_store (m : Master) : (s.refreshLink m).store = s.store := by unfold State.refreshLink; dsimp only; split; rfl; cases m <;> rfl
@[simp] theorem State.refreshLink_nv (m : Master) : (s.refreshLink m).nv = s.nv := by unfold State.refreshLink; dsimp only; split; rfl; cases m <;> rfl
@[simp] theorem State.refreshLink_array (m : Master) : (s.refreshLink m).array = s.array := by unfold State.refreshLink; dsimp only; split; rfl; cases m <;> rfl
@[simp] theorem State.refreshLink_restart (m : Master) : (s.refreshLink m).restart = s.restart := by unfold State.refreshLink; dsimp only; split; rfl; cases m <;> rfl
@[simp] theorem State.refreshLink_lastReset (m : Master) : (s.refreshLink m).lastReset = s.lastReset := by unfold State.refreshLink; dsimp only; split; rfl; cases m <;> rfl
@[simp] theorem State.refreshLink_draws (m : Master) : (s.refreshLink m).draws = s.draws := by unfold State.refreshLink; dsimp only; split; rfl; cases m <;> rfl

/-! ### loseLink -/

@[simp] theorem State.loseLink_pending (m : Master) : (s.loseLink m).pending = s.pending := by unfold State.loseLink; cases m <;> dsimp only <;> first | rfl | (split <;> rfl)
@[simp] theorem State.loseLink_powered (m : Master) : (s.loseLink m).powered = s.powered := by unfold State.loseLink; cases m <;> dsimp only <;> first | rfl | (split <;> rfl)
@[simp] theorem State.loseLink_time (m : Master) : (s.loseLink m).time = s.time := by unfold State.loseLink; cases m <;> dsimp only <;> first | rfl | (split <;> rfl)
@[simp] theorem State.loseLink_timers (m : Master) : (s.loseLink m).timers = s.timers := by unfold State.loseLink; cases m <;> dsimp only <;> first | rfl | (split <;> rfl)
@[simp] theorem State.loseLink_emergencyLine (m : Master) : (s.loseLink m).emergencyLine = s.emergencyLine := by unfold State.loseLink; cases m <;> dsimp only <;> first | rfl | (split <;> rfl)
@[simp] theorem State.loseLink_restartLine (m : Master) : (s.loseLink m).restartLine = s.restartLine := by unfold State.loseLink; cases m <;> dsimp only <;> first | rfl | (split <;> rfl)
@[simp] theorem State.loseLink_ledger (m : Master) : (s.loseLink m).ledger = s.ledger := by unfold State.loseLink; cases m <;> dsimp only <;> first | rfl | (split <;> rfl)
@[simp] theorem State.loseLink_loops (m : Master) : (s.loseLink m).loops = s.loops := by unfold State.loseLink; cases m <;> dsimp only <;> first | rfl | (split <;> rfl)
@[simp] theorem State.loseLink_watch (m : Master) : (s.loseLink m).watch = s.watch := by unfold State.loseLink; cases m <;> dsimp only <;> first | rfl | (split <;> rfl)
@[simp] theorem State.loseLink_monitor (m : Master) : (s.loseLink m).monitor = s.monitor := by unfold State.loseLink; cases m <;> dsimp only <;> first | rfl | (split <;> rfl)
@[simp] theorem State.loseLink_slide (m : Master) : (s.loseLink m).slide = s.slide := by unfold State.loseLink; cases m <;> dsimp only <;> first | rfl | (split <;> rfl)
@[simp] theorem State.loseLink_recorder (m : Master) : (s.loseLink m).recorder = s.recorder := by unfold State.loseLink; cases m <;> dsimp only <;> first | rfl | (split <;> rfl)
@[simp] theorem State.loseLink_store (m : Master) : (s.loseLink m).store = s.store := by unfold State.loseLink; cases m <;> dsimp only <;> first | rfl | (split <;> rfl)
@[simp] theorem State.loseLink_nv (m : Master) : (s.loseLink m).nv = s.nv := by unfold State.loseLink; cases m <;> dsimp only <;> first | rfl | (split <;> rfl)
@[simp] theorem State.loseLink_array (m : Master) : (s.loseLink m).array = s.array := by unfold State.loseLink; cases m <;> dsimp only <;> first | rfl | (split <;> rfl)
@[simp] theorem State.loseLink_restart (m : Master) : (s.loseLink m).restart = s.restart := by unfold State.loseLink; cases m <;> dsimp only <;> first | rfl | (split <;> rfl)
@[simp] theorem State.loseLink_lastReset (m : Master) : (s.loseLink m).lastReset = s.lastReset := by unfold State.loseLink; cases m <;> dsimp only <;> first | rfl | (split <;> rfl)
@[simp] theorem State.loseLink_draws (m : Master) : (s.loseLink m).draws = s.draws := by unfold State.loseLink; cases m <;> dsimp only <;> first | rfl | (split <;> rfl)

/-! ### received -/

@[simp] theorem State.received_pending (p : PortId) : (s.received p).pending = s.pending := by unfold State.received; dsimp only; split <;> simp
@[simp] theorem State.received_powered (p : PortId) : (s.received p).powered = s.powered := by unfold State.received; dsimp only; split <;> simp
@[simp] theorem State.received_time (p : PortId) : (s.received p).time = s.time := by unfold State.received; dsimp only; split <;> simp
@[simp] theorem State.received_timers (p : PortId) : (s.received p).timers = s.timers := by unfold State.received; dsimp only; split <;> simp
@[simp] theorem State.received_emergencyLine (p : PortId) : (s.received p).emergencyLine = s.emergencyLine := by unfold State.received; dsimp only; split <;> simp
@[simp] theorem State.received_restartLine (p : PortId) : (s.received p).restartLine = s.restartLine := by unfold State.received; dsimp only; split <;> simp
@[simp] theorem State.received_ledger (p : PortId) : (s.received p).ledger = s.ledger := by unfold State.received; dsimp only; split <;> simp
@[simp] theorem State.received_loops (p : PortId) : (s.received p).loops = s.loops := by unfold State.received; dsimp only; split <;> simp
@[simp] theorem State.received_watch (p : PortId) : (s.received p).watch = s.watch := by unfold State.received; dsimp only; split <;> simp
@[simp] theorem State.received_monitor (p : PortId) : (s.received p).monitor = s.monitor := by unfold State.received; dsimp only; split <;> simp
@[simp] theorem State.received_slide (p : PortId) : (s.received p).slide = s.slide := by unfold State.received; dsimp only; split <;> simp
@[simp] theorem State.received_recorder (p : PortId) : (s.received p).recorder = s.recorder := by unfold State.received; dsimp only; split <;> simp
@[simp] theorem State.received_store (p : PortId) : (s.received p).store = s.store := by unfold State.received; dsimp only; split <;> simp
@[simp] theorem State.received_nv (p : PortId) : (s.received p).nv = s.nv := by unfold State.received; dsimp only; split <;> simp
@[simp] theorem State.received_array (p : PortId) : (s.received p).array = s.array := by unfold State.received; dsimp only; split <;> simp
@[simp] theorem State.received_restart (p : PortId) : (s.received p).restart = s.restart := by unfold State.received; dsimp only; split <;> simp
@[simp] theorem State.received_lastReset (p : PortId) : (s.received p).lastReset = s.lastReset := by unfold State.received; dsimp only; split <;> simp
@[simp] theorem State.received_draws (p : PortId) : (s.received p).draws = s.draws := by unfold State.received; dsimp only; split <;> simp

/-! ### deferredReply -/

@[simp] theorem State.deferredReply_pending (r : Result) (d : List Byte) : (s.deferredReply r d).pending = s.pending := by unfold State.deferredReply; split <;> rfl
@[simp] theorem State.deferredReply_deliveries (r : Result) (d : List Byte) : (s.deferredReply r d).deliveries = s.deliveries := by unfold State.deferredReply; split <;> rfl
@[simp] theorem State.deferredReply_powered (r : Result) (d : List Byte) : (s.deferredReply r d).powered = s.powered := by unfold State.deferredReply; split <;> rfl
@[simp] theorem State.deferredReply_time (r : Result) (d : List Byte) : (s.deferredReply r d).time = s.time := by unfold State.deferredReply; split <;> rfl
@[simp] theorem State.deferredReply_timers (r : Result) (d : List Byte) : (s.deferredReply r d).timers = s.timers := by unfold State.deferredReply; split <;> rfl
@[simp] theorem State.deferredReply_emergencyLine (r : Result) (d : List Byte) : (s.deferredReply r d).emergencyLine = s.emergencyLine := by unfold State.deferredReply; split <;> rfl
@[simp] theorem State.deferredReply_restartLine (r : Result) (d : List Byte) : (s.deferredReply r d).restartLine = s.restartLine := by unfold State.deferredReply; split <;> rfl
@[simp] theorem State.deferredReply_arbiter (r : Result) (d : List Byte) : (s.deferredReply r d).arbiter = s.arbiter := by unfold State.deferredReply; split <;> rfl
@[simp] theorem State.deferredReply_ledger (r : Result) (d : List Byte) : (s.deferredReply r d).ledger = s.ledger := by unfold State.deferredReply; split <;> rfl
@[simp] theorem State.deferredReply_loops (r : Result) (d : List Byte) : (s.deferredReply r d).loops = s.loops := by unfold State.deferredReply; split <;> rfl
@[simp] theorem State.deferredReply_watch (r : Result) (d : List Byte) : (s.deferredReply r d).watch = s.watch := by unfold State.deferredReply; split <;> rfl
@[simp] theorem State.deferredReply_monitor (r : Result) (d : List Byte) : (s.deferredReply r d).monitor = s.monitor := by unfold State.deferredReply; split <;> rfl
@[simp] theorem State.deferredReply_slide (r : Result) (d : List Byte) : (s.deferredReply r d).slide = s.slide := by unfold State.deferredReply; split <;> rfl
@[simp] theorem State.deferredReply_recorder (r : Result) (d : List Byte) : (s.deferredReply r d).recorder = s.recorder := by unfold State.deferredReply; split <;> rfl
@[simp] theorem State.deferredReply_matrix (r : Result) (d : List Byte) : (s.deferredReply r d).matrix = s.matrix := by unfold State.deferredReply; split <;> rfl
@[simp] theorem State.deferredReply_store (r : Result) (d : List Byte) : (s.deferredReply r d).store = s.store := by unfold State.deferredReply; split <;> rfl
@[simp] theorem State.deferredReply_nv (r : Result) (d : List Byte) : (s.deferredReply r d).nv = s.nv := by unfold State.deferredReply; split <;> rfl
@[simp] theorem State.deferredReply_array (r : Result) (d : List Byte) : (s.deferredReply r d).array = s.array := by unfold State.deferredReply; split <;> rfl
@[simp] theorem State.deferredReply_restart (r : Result) (d : List Byte) : (s.deferredReply r d).restart = s.restart := by unfold State.deferredReply; split <;> rfl
@[simp] theorem State.deferredReply_lastReset (r : Result) (d : List Byte) : (s.deferredReply r d).lastReset = s.lastReset := by unfold State.deferredReply; split <;> rfl
@[simp] theorem State.deferredReply_draws (r : Result) (d : List Byte) : (s.deferredReply r d).draws = s.draws := by unfold State.deferredReply; split <;> rfl

/-! ### placeSeal -/

@[simp] theorem State.placeSeal_pending : (s.placeSeal).pending = s.pending := by unfold State.placeSeal; split; rfl; split <;> rfl
@[simp] theorem State.placeSeal_deliveries : (s.placeSeal).deliveries = s.deliveries := by unfold State.placeSeal; split; rfl; split <;> rfl
@[simp] theorem State.placeSeal_powered : (s.placeSeal).powered = s.powered := by unfold State.placeSeal; split; rfl; split <;> rfl
@[simp] theorem State.placeSeal_time : (s.placeSeal).time = s.time := by unfold State.placeSeal; split; rfl; split <;> rfl
@[simp] theorem State.placeSeal_timers : (s.placeSeal).timers = s.timers := by unfold State.placeSeal; split; rfl; split <;> rfl
@[simp] theorem State.placeSeal_emergencyLine : (s.placeSeal).emergencyLine = s.emergencyLine := by unfold State.placeSeal; split; rfl; split <;> rfl
@[simp] theorem State.placeSeal_restartLine : (s.placeSeal).restartLine = s.restartLine := by unfold State.placeSeal; split; rfl; split <;> rfl
@[simp] theorem State.placeSeal_arbiter : (s.placeSeal).arbiter = s.arbiter := by unfold State.placeSeal; split; rfl; split <;> rfl
@[simp] theorem State.placeSeal_ledger : (s.placeSeal).ledger = s.ledger := by unfold State.placeSeal; split; rfl; split <;> rfl
@[simp] theorem State.placeSeal_loops : (s.placeSeal).loops = s.loops := by unfold State.placeSeal; split; rfl; split <;> rfl
@[simp] theorem State.placeSeal_watch : (s.placeSeal).watch = s.watch := by unfold State.placeSeal; split; rfl; split <;> rfl
@[simp] theorem State.placeSeal_monitor : (s.placeSeal).monitor = s.monitor := by unfold State.placeSeal; split; rfl; split <;> rfl
@[simp] theorem State.placeSeal_slide : (s.placeSeal).slide = s.slide := by unfold State.placeSeal; split; rfl; split <;> rfl
@[simp] theorem State.placeSeal_recorder : (s.placeSeal).recorder = s.recorder := by unfold State.placeSeal; split; rfl; split <;> rfl
@[simp] theorem State.placeSeal_matrix : (s.placeSeal).matrix = s.matrix := by unfold State.placeSeal; split; rfl; split <;> rfl
@[simp] theorem State.placeSeal_ports : (s.placeSeal).ports = s.ports := by unfold State.placeSeal; split; rfl; split <;> rfl
@[simp] theorem State.placeSeal_store : (s.placeSeal).store = s.store := by unfold State.placeSeal; split; rfl; split <;> rfl
@[simp] theorem State.placeSeal_array : (s.placeSeal).array = s.array := by unfold State.placeSeal; split; rfl; split <;> rfl
@[simp] theorem State.placeSeal_restart : (s.placeSeal).restart = s.restart := by unfold State.placeSeal; split; rfl; split <;> rfl
@[simp] theorem State.placeSeal_lastReset : (s.placeSeal).lastReset = s.lastReset := by unfold State.placeSeal; split; rfl; split <;> rfl
@[simp] theorem State.placeSeal_draws : (s.placeSeal).draws = s.draws := by unfold State.placeSeal; split; rfl; split <;> rfl

/-! ### grantSeal -/

@[simp] theorem State.grantSeal_pending (i : Fin 2) : (s.grantSeal i).pending = s.pending := by unfold State.grantSeal; split <;> rfl
@[simp] theorem State.grantSeal_deliveries (i : Fin 2) : (s.grantSeal i).deliveries = s.deliveries := by unfold State.grantSeal; split <;> rfl
@[simp] theorem State.grantSeal_powered (i : Fin 2) : (s.grantSeal i).powered = s.powered := by unfold State.grantSeal; split <;> rfl
@[simp] theorem State.grantSeal_time (i : Fin 2) : (s.grantSeal i).time = s.time := by unfold State.grantSeal; split <;> rfl
@[simp] theorem State.grantSeal_timers (i : Fin 2) : (s.grantSeal i).timers = s.timers := by unfold State.grantSeal; split <;> rfl
@[simp] theorem State.grantSeal_emergencyLine (i : Fin 2) : (s.grantSeal i).emergencyLine = s.emergencyLine := by unfold State.grantSeal; split <;> rfl
@[simp] theorem State.grantSeal_restartLine (i : Fin 2) : (s.grantSeal i).restartLine = s.restartLine := by unfold State.grantSeal; split <;> rfl
@[simp] theorem State.grantSeal_arbiter (i : Fin 2) : (s.grantSeal i).arbiter = s.arbiter := by unfold State.grantSeal; split <;> rfl
@[simp] theorem State.grantSeal_ledger (i : Fin 2) : (s.grantSeal i).ledger = s.ledger := by unfold State.grantSeal; split <;> rfl
@[simp] theorem State.grantSeal_loops (i : Fin 2) : (s.grantSeal i).loops = s.loops := by unfold State.grantSeal; split <;> rfl
@[simp] theorem State.grantSeal_watch (i : Fin 2) : (s.grantSeal i).watch = s.watch := by unfold State.grantSeal; split <;> rfl
@[simp] theorem State.grantSeal_monitor (i : Fin 2) : (s.grantSeal i).monitor = s.monitor := by unfold State.grantSeal; split <;> rfl
@[simp] theorem State.grantSeal_slide (i : Fin 2) : (s.grantSeal i).slide = s.slide := by unfold State.grantSeal; split <;> rfl
@[simp] theorem State.grantSeal_matrix (i : Fin 2) : (s.grantSeal i).matrix = s.matrix := by unfold State.grantSeal; split <;> rfl
@[simp] theorem State.grantSeal_ports (i : Fin 2) : (s.grantSeal i).ports = s.ports := by unfold State.grantSeal; split <;> rfl
@[simp] theorem State.grantSeal_store (i : Fin 2) : (s.grantSeal i).store = s.store := by unfold State.grantSeal; split <;> rfl
@[simp] theorem State.grantSeal_array (i : Fin 2) : (s.grantSeal i).array = s.array := by unfold State.grantSeal; split <;> rfl
@[simp] theorem State.grantSeal_restart (i : Fin 2) : (s.grantSeal i).restart = s.restart := by unfold State.grantSeal; split <;> rfl
@[simp] theorem State.grantSeal_lastReset (i : Fin 2) : (s.grantSeal i).lastReset = s.lastReset := by unfold State.grantSeal; split <;> rfl
@[simp] theorem State.grantSeal_draws (i : Fin 2) : (s.grantSeal i).draws = s.draws := by unfold State.grantSeal; split <;> rfl

/-! ### grantedNothing -/

@[simp] theorem State.grantedNothing_pending (r : Result) : (s.grantedNothing r).pending = s.pending := by simp [State.grantedNothing]
@[simp] theorem State.grantedNothing_deliveries (r : Result) : (s.grantedNothing r).deliveries = s.deliveries := by simp [State.grantedNothing]
@[simp] theorem State.grantedNothing_powered (r : Result) : (s.grantedNothing r).powered = s.powered := by simp [State.grantedNothing]
@[simp] theorem State.grantedNothing_time (r : Result) : (s.grantedNothing r).time = s.time := by simp [State.grantedNothing]
@[simp] theorem State.grantedNothing_timers (r : Result) : (s.grantedNothing r).timers = s.timers := by simp [State.grantedNothing]
@[simp] theorem State.grantedNothing_emergencyLine (r : Result) : (s.grantedNothing r).emergencyLine = s.emergencyLine := by simp [State.grantedNothing]
@[simp] theorem State.grantedNothing_restartLine (r : Result) : (s.grantedNothing r).restartLine = s.restartLine := by simp [State.grantedNothing]
@[simp] theorem State.grantedNothing_arbiter (r : Result) : (s.grantedNothing r).arbiter = s.arbiter := by simp [State.grantedNothing]
@[simp] theorem State.grantedNothing_ledger (r : Result) : (s.grantedNothing r).ledger = s.ledger := by simp [State.grantedNothing]
@[simp] theorem State.grantedNothing_loops (r : Result) : (s.grantedNothing r).loops = s.loops := by simp [State.grantedNothing]
@[simp] theorem State.grantedNothing_watch (r : Result) : (s.grantedNothing r).watch = s.watch := by simp [State.grantedNothing]
@[simp] theorem State.grantedNothing_monitor (r : Result) : (s.grantedNothing r).monitor = s.monitor := by simp [State.grantedNothing]
@[simp] theorem State.grantedNothing_slide (r : Result) : (s.grantedNothing r).slide = s.slide := by simp [State.grantedNothing]
@[simp] theorem State.grantedNothing_recorder (r : Result) : (s.grantedNothing r).recorder = s.recorder := by simp [State.grantedNothing]
@[simp] theorem State.grantedNothing_matrix (r : Result) : (s.grantedNothing r).matrix = s.matrix := by simp [State.grantedNothing]
@[simp] theorem State.grantedNothing_store (r : Result) : (s.grantedNothing r).store = s.store := by simp [State.grantedNothing]
@[simp] theorem State.grantedNothing_array (r : Result) : (s.grantedNothing r).array = s.array := by simp [State.grantedNothing]
@[simp] theorem State.grantedNothing_restart (r : Result) : (s.grantedNothing r).restart = s.restart := by simp [State.grantedNothing]
@[simp] theorem State.grantedNothing_lastReset (r : Result) : (s.grantedNothing r).lastReset = s.lastReset := by simp [State.grantedNothing]
@[simp] theorem State.grantedNothing_draws (r : Result) : (s.grantedNothing r).draws = s.draws := by simp [State.grantedNothing]

/-! ### grantService -/

@[simp] theorem State.grantService_pending (op : ServiceOp) : (s.grantService op).pending = s.pending := by unfold State.grantService; cases op <;> dsimp only <;> first | rfl | (split; simp; first | rfl | (split; simp; rfl))
@[simp] theorem State.grantService_deliveries (op : ServiceOp) : (s.grantService op).deliveries = s.deliveries := by unfold State.grantService; cases op <;> dsimp only <;> first | rfl | (split; simp; first | rfl | (split; simp; rfl))
@[simp] theorem State.grantService_powered (op : ServiceOp) : (s.grantService op).powered = s.powered := by unfold State.grantService; cases op <;> dsimp only <;> first | rfl | (split; simp; first | rfl | (split; simp; rfl))
@[simp] theorem State.grantService_time (op : ServiceOp) : (s.grantService op).time = s.time := by unfold State.grantService; cases op <;> dsimp only <;> first | rfl | (split; simp; first | rfl | (split; simp; rfl))
@[simp] theorem State.grantService_timers (op : ServiceOp) : (s.grantService op).timers = s.timers := by unfold State.grantService; cases op <;> dsimp only <;> first | rfl | (split; simp; first | rfl | (split; simp; rfl))
@[simp] theorem State.grantService_emergencyLine (op : ServiceOp) : (s.grantService op).emergencyLine = s.emergencyLine := by unfold State.grantService; cases op <;> dsimp only <;> first | rfl | (split; simp; first | rfl | (split; simp; rfl))
@[simp] theorem State.grantService_restartLine (op : ServiceOp) : (s.grantService op).restartLine = s.restartLine := by unfold State.grantService; cases op <;> dsimp only <;> first | rfl | (split; simp; first | rfl | (split; simp; rfl))
@[simp] theorem State.grantService_arbiter (op : ServiceOp) : (s.grantService op).arbiter = s.arbiter := by unfold State.grantService; cases op <;> dsimp only <;> first | rfl | (split; simp; first | rfl | (split; simp; rfl))
@[simp] theorem State.grantService_ledger (op : ServiceOp) : (s.grantService op).ledger = s.ledger := by unfold State.grantService; cases op <;> dsimp only <;> first | rfl | (split; simp; first | rfl | (split; simp; rfl))
@[simp] theorem State.grantService_loops (op : ServiceOp) : (s.grantService op).loops = s.loops := by unfold State.grantService; cases op <;> dsimp only <;> first | rfl | (split; simp; first | rfl | (split; simp; rfl))
@[simp] theorem State.grantService_watch (op : ServiceOp) : (s.grantService op).watch = s.watch := by unfold State.grantService; cases op <;> dsimp only <;> first | rfl | (split; simp; first | rfl | (split; simp; rfl))
@[simp] theorem State.grantService_monitor (op : ServiceOp) : (s.grantService op).monitor = s.monitor := by unfold State.grantService; cases op <;> dsimp only <;> first | rfl | (split; simp; first | rfl | (split; simp; rfl))
@[simp] theorem State.grantService_slide (op : ServiceOp) : (s.grantService op).slide = s.slide := by unfold State.grantService; cases op <;> dsimp only <;> first | rfl | (split; simp; first | rfl | (split; simp; rfl))
@[simp] theorem State.grantService_recorder (op : ServiceOp) : (s.grantService op).recorder = s.recorder := by unfold State.grantService; cases op <;> dsimp only <;> first | rfl | (split; simp; first | rfl | (split; simp; rfl))
@[simp] theorem State.grantService_matrix (op : ServiceOp) : (s.grantService op).matrix = s.matrix := by unfold State.grantService; cases op <;> dsimp only <;> first | rfl | (split; simp; first | rfl | (split; simp; rfl))
@[simp] theorem State.grantService_store (op : ServiceOp) : (s.grantService op).store = s.store := by unfold State.grantService; cases op <;> dsimp only <;> first | rfl | (split; simp; first | rfl | (split; simp; rfl))
@[simp] theorem State.grantService_array (op : ServiceOp) : (s.grantService op).array = s.array := by unfold State.grantService; cases op <;> dsimp only <;> first | rfl | (split; simp; first | rfl | (split; simp; rfl))
@[simp] theorem State.grantService_restart (op : ServiceOp) : (s.grantService op).restart = s.restart := by unfold State.grantService; cases op <;> dsimp only <;> first | rfl | (split; simp; first | rfl | (split; simp; rfl))
@[simp] theorem State.grantService_lastReset (op : ServiceOp) : (s.grantService op).lastReset = s.lastReset := by unfold State.grantService; cases op <;> dsimp only <;> first | rfl | (split; simp; first | rfl | (split; simp; rfl))
@[simp] theorem State.grantService_draws (op : ServiceOp) : (s.grantService op).draws = s.draws := by unfold State.grantService; cases op <;> dsimp only <;> first | rfl | (split; simp; first | rfl | (split; simp; rfl))

/-! ### grant -/

@[simp] theorem State.grant_pending : (s.grant).pending = s.pending := by unfold State.grant; split; rfl; split; simp; split <;> simp
@[simp] theorem State.grant_deliveries : (s.grant).deliveries = s.deliveries := by unfold State.grant; split; rfl; split; simp; split <;> simp
@[simp] theorem State.grant_powered : (s.grant).powered = s.powered := by unfold State.grant; split; rfl; split; simp; split <;> simp
@[simp] theorem State.grant_time : (s.grant).time = s.time := by unfold State.grant; split; rfl; split; simp; split <;> simp
@[simp] theorem State.grant_timers : (s.grant).timers = s.timers := by unfold State.grant; split; rfl; split; simp; split <;> simp
@[simp] theorem State.grant_emergencyLine : (s.grant).emergencyLine = s.emergencyLine := by unfold State.grant; split; rfl; split; simp; split <;> simp
@[simp] theorem State.grant_restartLine : (s.grant).restartLine = s.restartLine := by unfold State.grant; split; rfl; split; simp; split <;> simp
@[simp] theorem State.grant_arbiter : (s.grant).arbiter = s.arbiter := by unfold State.grant; split; rfl; split; simp; split <;> simp
@[simp] theorem State.grant_ledger : (s.grant).ledger = s.ledger := by unfold State.grant; split; rfl; split; simp; split <;> simp
@[simp] theorem State.grant_loops : (s.grant).loops = s.loops := by unfold State.grant; split; rfl; split; simp; split <;> simp
@[simp] theorem State.grant_watch : (s.grant).watch = s.watch := by unfold State.grant; split; rfl; split; simp; split <;> simp
@[simp] theorem State.grant_monitor : (s.grant).monitor = s.monitor := by unfold State.grant; split; rfl; split; simp; split <;> simp
@[simp] theorem State.grant_slide : (s.grant).slide = s.slide := by unfold State.grant; split; rfl; split; simp; split <;> simp
@[simp] theorem State.grant_matrix : (s.grant).matrix = s.matrix := by unfold State.grant; split; rfl; split; simp; split <;> simp
@[simp] theorem State.grant_store : (s.grant).store = s.store := by unfold State.grant; split; rfl; split; simp; split <;> simp
@[simp] theorem State.grant_array : (s.grant).array = s.array := by unfold State.grant; split; rfl; split; simp; split <;> simp
@[simp] theorem State.grant_restart : (s.grant).restart = s.restart := by unfold State.grant; split; rfl; split; simp; split <;> simp
@[simp] theorem State.grant_lastReset : (s.grant).lastReset = s.lastReset := by unfold State.grant; split; rfl; split; simp; split <;> simp
@[simp] theorem State.grant_draws : (s.grant).draws = s.draws := by unfold State.grant; split; rfl; split; simp; split <;> simp

/-! ### nvTurn -/

@[simp] theorem State.nvTurn_pending : (s.nvTurn).pending = s.pending := by simp [State.nvTurn]
@[simp] theorem State.nvTurn_deliveries : (s.nvTurn).deliveries = s.deliveries := by simp [State.nvTurn]
@[simp] theorem State.nvTurn_powered : (s.nvTurn).powered = s.powered := by simp [State.nvTurn]
@[simp] theorem State.nvTurn_time : (s.nvTurn).time = s.time := by simp [State.nvTurn]
@[simp] theorem State.nvTurn_timers : (s.nvTurn).timers = s.timers := by simp [State.nvTurn]
@[simp] theorem State.nvTurn_emergencyLine : (s.nvTurn).emergencyLine = s.emergencyLine := by simp [State.nvTurn]
@[simp] theorem State.nvTurn_restartLine : (s.nvTurn).restartLine = s.restartLine := by simp [State.nvTurn]
@[simp] theorem State.nvTurn_arbiter : (s.nvTurn).arbiter = s.arbiter := by simp [State.nvTurn]
@[simp] theorem State.nvTurn_ledger : (s.nvTurn).ledger = s.ledger := by simp [State.nvTurn]
@[simp] theorem State.nvTurn_loops : (s.nvTurn).loops = s.loops := by simp [State.nvTurn]
@[simp] theorem State.nvTurn_watch : (s.nvTurn).watch = s.watch := by simp [State.nvTurn]
@[simp] theorem State.nvTurn_monitor : (s.nvTurn).monitor = s.monitor := by simp [State.nvTurn]
@[simp] theorem State.nvTurn_slide : (s.nvTurn).slide = s.slide := by simp [State.nvTurn]
@[simp] theorem State.nvTurn_matrix : (s.nvTurn).matrix = s.matrix := by simp [State.nvTurn]
@[simp] theorem State.nvTurn_store : (s.nvTurn).store = s.store := by simp [State.nvTurn]
@[simp] theorem State.nvTurn_array : (s.nvTurn).array = s.array := by simp [State.nvTurn]
@[simp] theorem State.nvTurn_restart : (s.nvTurn).restart = s.restart := by simp [State.nvTurn]
@[simp] theorem State.nvTurn_lastReset : (s.nvTurn).lastReset = s.lastReset := by simp [State.nvTurn]
@[simp] theorem State.nvTurn_draws : (s.nvTurn).draws = s.draws := by simp [State.nvTurn]

/-! ### placeService -/

@[simp] theorem State.placeService_pending (k : Byte) (op : ServiceOp) : (s.placeService k op).pending = s.pending := by simp [State.placeService]
@[simp] theorem State.placeService_deliveries (k : Byte) (op : ServiceOp) : (s.placeService k op).deliveries = s.deliveries := by simp [State.placeService]
@[simp] theorem State.placeService_powered (k : Byte) (op : ServiceOp) : (s.placeService k op).powered = s.powered := by simp [State.placeService]
@[simp] theorem State.placeService_time (k : Byte) (op : ServiceOp) : (s.placeService k op).time = s.time := by simp [State.placeService]
@[simp] theorem State.placeService_timers (k : Byte) (op : ServiceOp) : (s.placeService k op).timers = s.timers := by simp [State.placeService]
@[simp] theorem State.placeService_emergencyLine (k : Byte) (op : ServiceOp) : (s.placeService k op).emergencyLine = s.emergencyLine := by simp [State.placeService]
@[simp] theorem State.placeService_restartLine (k : Byte) (op : ServiceOp) : (s.placeService k op).restartLine = s.restartLine := by simp [State.placeService]
@[simp] theorem State.placeService_arbiter (k : Byte) (op : ServiceOp) : (s.placeService k op).arbiter = s.arbiter := by simp [State.placeService]
@[simp] theorem State.placeService_ledger (k : Byte) (op : ServiceOp) : (s.placeService k op).ledger = s.ledger := by simp [State.placeService]
@[simp] theorem State.placeService_loops (k : Byte) (op : ServiceOp) : (s.placeService k op).loops = s.loops := by simp [State.placeService]
@[simp] theorem State.placeService_watch (k : Byte) (op : ServiceOp) : (s.placeService k op).watch = s.watch := by simp [State.placeService]
@[simp] theorem State.placeService_monitor (k : Byte) (op : ServiceOp) : (s.placeService k op).monitor = s.monitor := by simp [State.placeService]
@[simp] theorem State.placeService_slide (k : Byte) (op : ServiceOp) : (s.placeService k op).slide = s.slide := by simp [State.placeService]
@[simp] theorem State.placeService_matrix (k : Byte) (op : ServiceOp) : (s.placeService k op).matrix = s.matrix := by simp [State.placeService]
@[simp] theorem State.placeService_store (k : Byte) (op : ServiceOp) : (s.placeService k op).store = s.store := by simp [State.placeService]
@[simp] theorem State.placeService_array (k : Byte) (op : ServiceOp) : (s.placeService k op).array = s.array := by simp [State.placeService]
@[simp] theorem State.placeService_restart (k : Byte) (op : ServiceOp) : (s.placeService k op).restart = s.restart := by simp [State.placeService]
@[simp] theorem State.placeService_lastReset (k : Byte) (op : ServiceOp) : (s.placeService k op).lastReset = s.lastReset := by simp [State.placeService]
@[simp] theorem State.placeService_draws (k : Byte) (op : ServiceOp) : (s.placeService k op).draws = s.draws := by simp [State.placeService]

end Sys2Proof.Machine
end

