-- ==== Sys2Proof/Laws/Ops.lean ====
section
/-! SUPPORT. What each shared operation over the state can do, said once: one lemma for each, to be cited instead of unfolding it. -/

namespace Sys2Proof.Machine

variable {s t : State}

/-! ### Commands and outcomes -/

/-- A command of a powered part has its effect. -/
theorem powered_on {f : State → State} (h : s.powered = true) : powered f s = .next (f s) := by simp [powered, h]

/-- Without power a command changes nothing. -/
theorem powered_off {f : State → State} (h : s.powered = false) : powered f s = .next s := by simp [powered, h]

/-- A command that may have been delivered takes its oldest delivery with it. -/
theorem delivered_on {c : Instr} {f : State → State} (h : s.powered = true) :
    delivered c f s = .next (f { s with deliveries := s.deliveries.erase c }) := by simp [delivered, powered, h]

/-- Whatever a command of the part answers is a next state. -/
theorem powered_next {f : State → State} (h : powered f s = .next t) : t = f s ∨ t = s := by
  unfold powered at h
  split at h <;> cases h <;> simp

/-! ### Ports -/

/-- A port transmits the waiting order, or its oldest reply, or goes on as it is (R163). -/
theorem Ports.start_cases (ps : Ports) (p : PortId) :
    ps.start p = ps
    ∨ (∃ o, p = .traction ∧ ps.order = some o ∧ (ps.port.get p).sending = none
        ∧ ps.start p = { ps.withPort p { ps.port.get p with sending := some o.frame } with order := none })
    ∨ (∃ f fs, (ps.port.get p).replies = f :: fs ∧ (ps.port.get p).sending = none
        ∧ ps.start p = ps.withPort p { ps.port.get p with sending := some f, replies := fs }) := by
  unfold Ports.start
  dsimp only
  split
  · exact .inl rfl
  · rename_i hs
    split
    · rename_i o ho
      by_cases hp : p = .traction
      · subst hp
        exact .inr (.inl ⟨o, rfl, by simpa using ho, hs, rfl⟩)
      · simp [hp] at ho
    · split
      · exact .inl rfl
      · rename_i f fs hr
        exact .inr (.inr ⟨f, fs, hr, hs, rfl⟩)

@[simp] theorem PerPort.get_set_self {α : Type} (x : PerPort α) (p : PortId) (v : α) : (x.set p v).get p = v := by
  cases p <;> rfl

theorem PerPort.get_set_ne {α : Type} (x : PerPort α) {p q : PortId} (v : α) (h : q ≠ p) :
    (x.set p v).get q = x.get q := by
  cases p <;> cases q <;> first | rfl | exact absurd rfl h

@[simp] theorem PerMaster.get_set_self {α : Type} (x : PerMaster α) (m : Master) (v : α) : (x.set m v).get m = v := by
  cases m <;> rfl

theorem PerMaster.get_set_ne {α : Type} (x : PerMaster α) {m n : Master} (v : α) (h : n ≠ m) :
    (x.set m v).get n = x.get n := by
  cases m <;> cases n <;> first | rfl | exact absurd rfl h

@[simp] theorem PerSource.get_set_self {α : Type} (x : PerSource α) (g : Source) (v : α) : (x.set g v).get g = v := by
  cases g <;> rfl

theorem PerSource.get_set_ne {α : Type} (x : PerSource α) {g k : Source} (v : α) (h : k ≠ g) :
    (x.set g v).get k = x.get k := by
  cases g <;> cases k <;> first | rfl | exact absurd rfl h

@[simp] theorem PerAxle.get_ofFn {α : Type} (f : Axle → α) (i : Axle) : (PerAxle.ofFn f).get i = f i := by
  cases i <;> rfl

@[simp] theorem PerAxle.get_set_self {α : Type} (x : PerAxle α) (i : Axle) (v : α) : (x.set i v).get i = v := by
  cases i <;> rfl

theorem PerAxle.get_set_ne {α : Type} (x : PerAxle α) {i j : Axle} (v : α) (h : j ≠ i) :
    (x.set i v).get j = x.get j := by
  cases i <;> cases j <;> first | rfl | exact absurd rfl h

@[simp] theorem PerTruck.get_ofFn {α : Type} (f : Truck → α) (t : Truck) : (PerTruck.ofFn f).get t = f t := by
  cases t <;> rfl

@[simp] theorem PerTruck.get_set_self {α : Type} (x : PerTruck α) (t : Truck) (v : α) : (x.set t v).get t = v := by
  cases t <;> rfl

theorem PerTruck.get_set_ne {α : Type} (x : PerTruck α) {t u : Truck} (v : α) (h : u ≠ t) :
    (x.set t v).get u = x.get u := by
  cases t <;> cases u <;> first | rfl | exact absurd rfl h

/-- The fields of the ports that starting a transmission leaves alone. -/
@[simp] theorem Ports.start_link (ps : Ports) (p : PortId) : (ps.start p).link = ps.link := by
  rcases ps.start_cases p with h | ⟨_, _, _, _, h⟩ | ⟨_, _, _, _, h⟩ <;> rw [h] <;> rfl
@[simp] theorem Ports.start_capability (ps : Ports) (p : PortId) : (ps.start p).capability = ps.capability := by
  rcases ps.start_cases p with h | ⟨_, _, _, _, h⟩ | ⟨_, _, _, _, h⟩ <;> rw [h] <;> rfl
@[simp] theorem Ports.start_outstanding (ps : Ports) (p : PortId) : (ps.start p).outstanding = ps.outstanding := by
  rcases ps.start_cases p with h | ⟨_, _, _, _, h⟩ | ⟨_, _, _, _, h⟩ <;> rw [h] <;> rfl
/-- The order position after a transmission starts: as it was, or clear. -/
theorem Ports.start_order (ps : Ports) (p : PortId) : (ps.start p).order = ps.order ∨ (ps.start p).order = none := by
  rcases ps.start_cases p with h | ⟨_, _, _, _, h⟩ | ⟨_, _, _, _, h⟩ <;> rw [h] <;> simp [Ports.withPort]

@[simp] theorem Ports.place_link (ps : Ports) (p : PortId) (f : Frame) : (ps.place p f).link = ps.link := by
  simp [Ports.place, Ports.withPort]
@[simp] theorem Ports.place_capability (ps : Ports) (p : PortId) (f : Frame) :
    (ps.place p f).capability = ps.capability := by simp [Ports.place, Ports.withPort]
@[simp] theorem Ports.place_outstanding (ps : Ports) (p : PortId) (f : Frame) :
    (ps.place p f).outstanding = ps.outstanding := by simp [Ports.place, Ports.withPort]
theorem Ports.place_order (ps : Ports) (p : PortId) (f : Frame) :
    (ps.place p f).order = ps.order ∨ (ps.place p f).order = none := by
  unfold Ports.place
  exact Ports.start_order _ p

/-- The judgement of a received frame (R161): a report is taken or discarded; a request is discarded for want of room, answered, or taken, and on the service port only while no reply is outstanding. -/
theorem Ports.judge_take {ps : Ports} {p : PortId} {k : Byte} {n : Nat} (h : ps.judge p k n = .take) :
    isReportCode k = true ∨ (ps.room p = true ∧ (p = .service → ps.outstanding = none)) := by
  unfold Ports.judge at h
  split at h
  · exact .inl ‹_›
  · refine .inr ?_
    split at h
    · cases h
    · rename_i hr
      refine ⟨by simpa using hr, ?_⟩
      intro hp
      split at h
      · cases h
      · split at h
        · cases h
        · split at h
          · cases h
          · split at h
            · cases h
            · rename_i ho
              simpa [hp] using ho

/-- An answer needs room for it, and answers no report (R161). -/
theorem Ports.judge_answer {ps : Ports} {p : PortId} {k : Byte} {n : Nat} {r : Result} (h : ps.judge p k n = .answer r) :
    isReportCode k = false ∧ ps.room p = true := by
  unfold Ports.judge at h
  split at h
  · split at h <;> cases h
  · rename_i hk
    split at h
    · cases h
    · rename_i hr
      exact ⟨by simpa using hk, by simpa using hr⟩

/-! ### Links -/

/-- A refresh of a link: the link is FRESH from now, and a change to FRESH of the cab or supervision link is one event of the arbiter (R170, R172, R173). -/
theorem State.refreshLink_cases (m : Master) (s : State) :
    s.refreshLink m = { s with ports := s.ports.refresh m s.time }
    ∨ ∃ f : Arbiter → Arbiter, (s.ports.link.get m).state ≠ .fresh
        ∧ (f = .takeCabFresh ∨ f = .takeSupervisionFresh)
        ∧ s.refreshLink m = State.arbiterEvent f { s with ports := s.ports.refresh m s.time } := by
  unfold State.refreshLink
  dsimp only
  split
  · exact .inl rfl
  · rename_i h
    cases m
    · exact .inr ⟨_, h, .inl rfl, rfl⟩
    · exact .inl rfl
    · exact .inr ⟨_, h, .inr rfl, rfl⟩

/-- The ports after a refresh. -/
@[simp] theorem State.refreshLink_ports (m : Master) (s : State) :
    (s.refreshLink m).ports = s.ports.refresh m s.time := by
  rcases s.refreshLink_cases m with h | ⟨f, _, _, h⟩ <;> rw [h] <;> rfl

/-- The ports after a loss. -/
@[simp] theorem State.loseLink_ports (m : Master) (s : State) : (s.loseLink m).ports = s.ports.lose m := by
  unfold State.loseLink
  cases m <;> dsimp only
  · rfl
  · split <;> rfl
  · rfl

/-! ### Frames -/

/-- The ports once a frame has been received: its port hunts, and the supervision port has refreshed its link (R160, R161 step 1). -/
theorem State.received_ports (p : PortId) (s : State) :
    (s.received p).ports =
      if p = .supervision then
        (s.ports.withPort p { s.ports.port.get p with assembly := .hunt }).refresh .supervision s.time
      else s.ports.withPort p { s.ports.port.get p with assembly := .hunt } := by
  unfold State.received
  split <;> simp

/-- A frame received elsewhere than at the supervision port changes its port's assembly alone (R161). -/
theorem State.received_eq {p : PortId} (h : p ≠ .supervision) (s : State) :
    s.received p = { s with ports := s.ports.withPort p { s.ports.port.get p with assembly := .hunt } } := by
  simp [State.received, h]

/-- A judged frame is discarded, answered at once, or taken (R161). -/
theorem State.takeFrame_cases (p : PortId) (k : Byte) (n : Nat) (act : State → State) (s : State) :
    s.takeFrame p k n act = s.received p
    ∨ (∃ r, (s.received p).ports.judge p k n = .answer r
        ∧ s.takeFrame p k n act = (s.received p).reply p k r [])
    ∨ ((s.received p).ports.judge p k n = .take ∧ s.takeFrame p k n act = act (s.received p)) := by
  unfold State.takeFrame
  dsimp only
  split
  · exact .inl rfl
  · rename_i r h
    exact .inr (.inl ⟨r, h, rfl⟩)
  · rename_i h
    exact .inr (.inr ⟨h, rfl⟩)

/-- A frame that is taken. -/
theorem State.takeFrame_take {p : PortId} {k : Byte} {n : Nat} {act : State → State}
    (h : (s.received p).ports.judge p k n = .take) : s.takeFrame p k n act = act (s.received p) := by
  simp [State.takeFrame, h]

/-! ### Non-volatile operations -/

/-- A deferred reply is placed, with the flag cleared, exactly where one is owed (R167). -/
theorem State.deferredReply_cases (r : Result) (d : List Byte) (s : State) :
    (s.ports.outstanding = none ∧ s.deferredReply r d = s)
    ∨ ∃ k, s.ports.outstanding = some k
        ∧ s.deferredReply r d =
          { s with ports := { s.ports.place .service (replyFrame k r d) with outstanding := none } } := by
  unfold State.deferredReply
  split
  · exact .inl ⟨‹_›, rfl⟩
  · rename_i k h
    exact .inr ⟨k, h, rfl⟩

/-- A pending restart takes effect, or nothing happens (R189). -/
theorem State.restartIfDue_cases (s : State) :
    s.restartIfDue = s
    ∨ ∃ cause, s.restart = some cause ∧ s.nv.inFlight = none ∧ s.ports.restartOwed = false
        ∧ s.restartIfDue = s.warmRestart cause := by
  unfold State.restartIfDue
  split
  · exact .inl rfl
  · rename_i cause h
    split
    · rename_i hc
      simp at hc
      exact .inr ⟨cause, h, hc.1, hc.2, rfl⟩
    · exact .inl rfl

/-- A grant while an operation is in flight or a restart is pending does nothing (R186, R189). -/
theorem State.grant_idle (h : s.restart.isSome = true ∨ s.nv.inFlight.isSome = true) : s.grant = s := by
  unfold State.grant
  rcases h with h | h <;> simp [h]

/-- All that a READ INCIDENT can leave in the recorder: the numbers that part 0 showed (R137, log 39). -/
theorem Recorder.afterRead_cases (slot part : Byte) (result : Result) (r : Recorder) :
    r.afterRead slot part result = r
    ∨ ∃ i : Fin 12, slot.toNat = i.val ∧ part = 0 ∧ result = .ok
        ∧ r.afterRead slot part result = { r with shown := r.shown.set i (r.directory[i]).incident } := by
  unfold Recorder.afterRead slotNumber
  split
  · exact .inl rfl
  · rename_i i h
    split at h
    · cases h
      split
      · rename_i hc
        exact .inr ⟨_, rfl, hc.1, hc.2, rfl⟩
      · exact .inl rfl
    · cases h
@[simp] theorem Recorder.afterRead_directory (slot part : Byte) (x : Result) (r : Recorder) :
    (r.afterRead slot part x).directory = r.directory := by
  rcases r.afterRead_cases slot part x with h | ⟨i, -, -, -, h⟩ <;> rw [h]
@[simp] theorem Recorder.afterRead_buffers (slot part : Byte) (x : Result) (r : Recorder) :
    (r.afterRead slot part x).buffers = r.buffers := by
  rcases r.afterRead_cases slot part x with h | ⟨i, -, -, -, h⟩ <;> rw [h]
@[simp] theorem Recorder.afterRead_ring (slot part : Byte) (x : Result) (r : Recorder) :
    (r.afterRead slot part x).ring = r.ring := by
  rcases r.afterRead_cases slot part x with h | ⟨i, -, -, -, h⟩ <;> rw [h]

/-- All that the report of a driver's health can do: nothing, where the driver cannot find it, and else what the matrix does with a change (R151). -/
theorem execDriverHealthChange_cases (d : Fin 8) (h : DriverHealth) (s : State) :
    (s.matrix.canFind d h = false ∧ execDriverHealthChange d h s = .next s)
    ∨ (s.matrix.canFind d h = true
      ∧ execDriverHealthChange d h s
        = powered (.driverHealth d s.matrix.health[d] h) (s.withDriverHealth d h)) := by
  unfold execDriverHealthChange
  cases hf : s.matrix.canFind d h
  · exact .inl ⟨rfl, rfl⟩
  · exact .inr ⟨rfl, rfl⟩

/-- The arbiter's event, on the fields it writes. -/
@[simp] theorem State.arbiterEvent_arbiter (f : Arbiter → Arbiter) (s : State) :
    (s.arbiterEvent f).arbiter = Arbiter.settle s.cfg s.time (f s.arbiter) := rfl
@[simp] theorem State.arbiterEvent_cfg (f : Arbiter → Arbiter) (s : State) : (s.arbiterEvent f).cfg = s.cfg := rfl
@[simp] theorem State.reply_ports (p : PortId) (k : Byte) (r : Result) (d : List Byte) (s : State) :
    (s.reply p k r d).ports = s.ports.place p (replyFrame k r d) := rfl
@[simp] theorem State.order_ports (r : OrderReason) (s : State) :
    (s.order r).ports = s.ports.handOrder ⟨(s.order r).ledger.cmd, r⟩ := rfl
@[simp] theorem State.deliver_deliveries (ds : List Instr) (s : State) :
    (s.deliver ds).deliveries = s.deliveries ++ ds := rfl

end Sys2Proof.Machine
end

