-- ==== Sys2Proof/Laws/Arbiter.lean ====
section
/-! SUPPORT. What the steps of R8 do to the arbiter: the fields they leave alone, and the laws of R2 and R3 that they keep. -/

namespace Sys2Proof.Machine

/-! ### Standings -/

theorem Arbiter.standing_withStanding (a : Arbiter) (s g : Source) (st : Standing) :
    (a.withStanding s st).standing g = if g = s then st else a.standing g := by
  unfold Arbiter.standing Arbiter.withStanding
  by_cases h : g = s
  · subst h; simp
  · simp [PerSource.get_set_ne _ _ h, h]

@[simp] theorem Arbiter.standing_withEfforts (a : Arbiter) (s g : Source) (p i : Nat) :
    (a.withEfforts s p i).standing g = a.standing g := by
  unfold Arbiter.standing Arbiter.withEfforts
  by_cases h : g = s
  · subst h; simp
  · simp [PerSource.get_set_ne _ _ h]

/-- A source is one of the nine of the demand table (R1). -/
theorem Source.mem_all (g : Source) : g ∈ Source.all := by cases g <;> decide

/-- The candidate among a list of sources, from the best so far: none where no source waits, and otherwise a PENDING source that no PENDING source outranks (R6). -/
theorem candidate_fold (a : Arbiter) (l : List Source) (best : Option Source)
    (hb : ∀ b, best = some b → a.standing b = .pending) :
    (∀ c, l.foldl (fun best s => if a.standing s = .pending then
        match best with
        | none => some s
        | some b => if sourceLevel b < sourceLevel s then some s else some b
      else best) best = some c →
        a.standing c = .pending ∧ (∀ g ∈ l, a.standing g = .pending → sourceLevel g ≤ sourceLevel c)
        ∧ (∀ b, best = some b → sourceLevel b ≤ sourceLevel c)) ∧
    (l.foldl (fun best s => if a.standing s = .pending then
        match best with
        | none => some s
        | some b => if sourceLevel b < sourceLevel s then some s else some b
      else best) best = none → best = none ∧ ∀ g ∈ l, a.standing g ≠ .pending) := by
  induction l generalizing best with
  | nil =>
    refine ⟨fun c h => ⟨hb c h, by simp, fun b hbb => ?_⟩, fun h => ⟨h, by simp⟩⟩
    simp only [List.foldl_nil] at h
    rw [hbb] at h
    cases h
    exact Nat.le_refl _
  | cons x xs ih =>
    simp only [List.foldl_cons]
    by_cases hx : a.standing x = .pending
    · simp only [hx, if_true]
      cases best with
      | none =>
        obtain ⟨h1, h2⟩ := ih (some x) (by intro b h; cases h; exact hx)
        refine ⟨fun c h => ?_, fun h => by simpa using (h2 h).1⟩
        obtain ⟨p, q, r⟩ := h1 c h
        exact ⟨p, by simpa using ⟨fun _ => r x rfl, q⟩, by simp⟩
      | some b =>
        dsimp only
        by_cases hl : sourceLevel b < sourceLevel x
        · simp only [hl, if_true]
          obtain ⟨h1, h2⟩ := ih (some x) (by intro y h; cases h; exact hx)
          refine ⟨fun c h => ?_, fun h => by simpa using (h2 h).1⟩
          obtain ⟨p, q, r⟩ := h1 c h
          refine ⟨p, by simpa using ⟨fun _ => r x rfl, q⟩, fun y hy => ?_⟩
          cases hy
          have := r x rfl
          omega
        · simp only [hl, if_false]
          obtain ⟨h1, h2⟩ := ih (some b) hb
          refine ⟨fun c h => ?_, fun h => by simpa using (h2 h).1⟩
          obtain ⟨p, q, r⟩ := h1 c h
          refine ⟨p, ?_, r⟩
          have := r b rfl
          simp only [List.mem_cons, forall_eq_or_imp]
          exact ⟨fun _ => by omega, q⟩
    · simp only [hx, if_false]
      obtain ⟨h1, h2⟩ := ih best hb
      refine ⟨fun c h => ?_, fun h => ?_⟩
      · obtain ⟨p, q, r⟩ := h1 c h
        exact ⟨p, by simpa using ⟨fun h' => absurd h' hx, q⟩, r⟩
      · obtain ⟨p, q⟩ := h2 h
        exact ⟨p, by simpa using ⟨hx, q⟩⟩

/-- The candidate waits and no waiting source outranks it (R6). -/
theorem Arbiter.candidate_some {a : Arbiter} {c : Source} (h : a.candidate = some c) :
    a.standing c = .pending ∧ ∀ g, a.standing g = .pending → sourceLevel g ≤ sourceLevel c := by
  obtain ⟨p, q, _⟩ := (candidate_fold a Source.all none (by simp)).1 c h
  exact ⟨p, fun g => q g (Source.mem_all g)⟩

/-- Without a candidate no source waits (R6). -/
theorem Arbiter.candidate_none {a : Arbiter} (h : a.candidate = none) (g : Source) : a.standing g ≠ .pending :=
  ((candidate_fold a Source.all none (by simp)).2 h).2 g (Source.mem_all g)

theorem sourceLevel_pos (g : Source) : 0 < sourceLevel g := by cases g <;> decide

/-! ### The laws of R3 through the transitions -/

/-- A demand table from which the governor has just gone, with its stack and its waiting entries in order. -/
structure Arbiter.Vacant (b : Arbiter) : Prop where
  none_governs : ∀ g, b.standing g ≠ .governing
  held : ∀ g, b.standing g = .held ↔ g ∈ b.stack
  rising : b.stack.Pairwise fun x y => sourceLevel x < sourceLevel y

theorem dropLast_getLast {α : Type} {l : List α} {t : α} (h : l.getLast? = some t) : l = l.dropLast ++ [t] := by
  obtain ⟨ys, rfl⟩ := List.getLast?_eq_some_iff.mp h
  simp

/-- Re-evaluation restores the laws of R3 (R6). -/
theorem Arbiter.Vacant.reevaluate {b : Arbiter} (hb : b.Vacant) : b.reevaluate.Lawful := by
  have hrise := hb.rising
  have hheld := hb.held
  unfold Arbiter.reevaluate
  dsimp only
  -- the outcome in which the top of the stack, if any, governs
  have popped : (∀ g, b.standing g = .pending → sourceLevel g ≤ b.topLevel) →
      (match b.stack.getLast? with
        | none => { b with governor := none }
        | some t => { b.withStanding t .governing with governor := some t, stack := b.stack.dropLast }).Lawful := by
    intro hpend
    unfold Arbiter.topLevel at hpend
    split
    · rename_i hs
      rw [hs] at hpend
      dsimp only at hpend
      have hnil : b.stack = [] := List.getLast?_eq_none_iff.mp hs
      refine ⟨?_, ?_, ?_, ?_, ?_⟩
      · intro g
        exact ⟨fun h => absurd h (hb.none_governs g), fun h => by simp at h⟩
      · intro g; exact hheld g
      · exact hrise
      · intro g hg
        have : g ∈ b.stack := hg
        simp [hnil] at this
      · intro g hg
        have := hpend g hg
        have := sourceLevel_pos g
        omega
    · rename_i t hs
      rw [hs] at hpend
      dsimp only at hpend
      have hsplit := dropLast_getLast hs
      have ht : t ∈ b.stack := by rw [hsplit]; simp
      have hpw := hrise
      rw [hsplit, List.pairwise_append] at hpw
      have hnotin : t ∉ b.stack.dropLast := by
        intro h
        have := hpw.2.2 t h t (by simp)
        omega
      refine ⟨?_, ?_, ?_, ?_, ?_⟩
      · intro g
        show (b.withStanding t .governing).standing g = .governing ↔ some t = some g
        rw [Arbiter.standing_withStanding]
        by_cases h : g = t
        · simp [h]
        · simp only [h, if_false]
          exact ⟨fun x => absurd x (hb.none_governs g), fun x => absurd (Option.some.inj x).symm h⟩
      · intro g
        show (b.withStanding t .governing).standing g = .held ↔ g ∈ b.stack.dropLast
        rw [Arbiter.standing_withStanding]
        by_cases h : g = t
        · subst h; simpa using hnotin
        · simp only [h, if_false]
          rw [hheld g]
          constructor
          · intro hg; rw [hsplit] at hg; simpa [h] using hg
          · intro hg; rw [hsplit]; simp [hg]
      · exact hpw.1
      · intro g hg
        exact hpw.2.2 g hg t (by simp)
      · intro g hg
        have hg' : (b.withStanding t .governing).standing g = .pending := hg
        rw [Arbiter.standing_withStanding] at hg'
        by_cases h : g = t
        · simp [h] at hg'
        · simp only [h, if_false] at hg'
          exact hpend g hg'
  split
  · rename_i hc
    exact popped fun g hg => absurd hg (Arbiter.candidate_none hc g)
  · rename_i c hc
    obtain ⟨hcp, hcmax⟩ := Arbiter.candidate_some hc
    split
    · rename_i hlt
      refine ⟨?_, ?_, ?_, ?_, ?_⟩
      · intro g
        show (b.withStanding c .governing).standing g = .governing ↔ some c = some g
        rw [Arbiter.standing_withStanding]
        by_cases h : g = c
        · simp [h]
        · simp only [h, if_false]
          exact ⟨fun x => absurd x (hb.none_governs g), fun x => absurd (Option.some.inj x).symm h⟩
      · intro g
        show (b.withStanding c .governing).standing g = .held ↔ g ∈ b.stack
        rw [Arbiter.standing_withStanding]
        by_cases h : g = c
        · subst h
          have : g ∉ b.stack := by
            intro hg
            rw [← hheld g, hcp] at hg
            cases hg
          simpa using this
        · simp only [h, if_false]; exact hheld g
      · exact hrise
      · intro g hg
        show sourceLevel g < sourceLevel c
        have hg : g ∈ b.stack := hg
        unfold Arbiter.topLevel at hlt
        cases hl : b.stack.getLast? with
        | none =>
          have hnil : b.stack = [] := List.getLast?_eq_none_iff.mp hl
          simp [hnil] at hg
        | some t =>
          rw [hl] at hlt
          dsimp only at hlt
          have hsplit := dropLast_getLast hl
          have hpw := hrise
          rw [hsplit, List.pairwise_append] at hpw
          rw [hsplit] at hg
          rcases List.mem_append.mp hg with h | h
          · have := hpw.2.2 g h t (by simp)
            omega
          · have : g = t := by simpa using h
            rw [this]; exact hlt
      · intro g hg
        show sourceLevel g ≤ sourceLevel c
        have hg' : (b.withStanding c .governing).standing g = .pending := hg
        rw [Arbiter.standing_withStanding] at hg'
        by_cases h : g = c
        · simp [h] at hg'
        · simp only [h, if_false] at hg'
          exact hcmax g hg'
    · rename_i hnlt
      exact popped fun g hg => by
        have := hcmax g hg
        omega

/-- The standings once a source's entry has been put to IDLE. -/
theorem Arbiter.standing_gone (a : Arbiter) (s g : Source) :
    Arbiter.standing { a with entries := a.entries.set s (Entry.gone s (a.entries.get s)) } g =
      if g = s then .idle else a.standing g := by
  unfold Arbiter.standing
  by_cases h : g = s
  · subst h; simp [Entry.gone]
  · simp [PerSource.get_set_ne _ _ h, h]

/-- An entry that goes IDLE leaves the laws of R3 standing (R6, R7). -/
theorem Arbiter.Lawful.goIdle {a : Arbiter} (ha : a.Lawful) (s : Source) : (a.goIdle s).Lawful := by
  unfold Arbiter.goIdle
  dsimp only
  have hst := a.standing_gone s
  split
  · rename_i hg
    apply Arbiter.Vacant.reevaluate
    refine ⟨?_, ?_, ha.rising⟩
    · intro g h
      rw [hst] at h
      by_cases e : g = s
      · simp [e] at h
      · simp only [e, if_false] at h
        rw [ha.governs] at h hg
        rw [h] at hg
        exact e (Option.some.inj hg)
    · intro g
      rw [hst]
      by_cases e : g = s
      · subst e
        have : g ∉ a.stack := by
          intro h
          rw [← ha.held, hg] at h
          cases h
        simpa using this
      · simp only [e, if_false]
        exact ha.held g
  · rename_i hh
    have hauth : ∀ st, Arbiter.authority { a with entries := a.entries.set s (Entry.gone s (a.entries.get s)), stack := st }
        = a.authority := fun _ => rfl
    refine ⟨?_, ?_, ?_, ?_, ?_⟩
    · intro g
      refine Iff.trans (?_ : _ ↔ Arbiter.standing { a with entries := a.entries.set s (Entry.gone s (a.entries.get s)) } g = .governing) ?_
      · exact Iff.rfl
      · rw [hst]
        by_cases e : g = s
        · subst e
          simp only [if_true]
          constructor
          · intro h; cases h
          · intro h
            have := (ha.governs g).mpr h
            rw [hh] at this
            cases this
        · simp only [e, if_false]
          exact ha.governs g
    · intro g
      refine Iff.trans (?_ : _ ↔ Arbiter.standing { a with entries := a.entries.set s (Entry.gone s (a.entries.get s)) } g = .held) ?_
      · exact Iff.rfl
      · rw [hst]
        have hnd : a.stack.Nodup := ha.rising.imp (fun h e => by subst e; omega)
        show _ ↔ g ∈ a.stack.erase s
        by_cases e : g = s
        · subst e
          simp [hnd.not_mem_erase]
        · simp only [e, if_false]
          rw [ha.held, List.mem_erase_of_ne e]
    · exact ha.rising.sublist List.erase_sublist
    · intro g hg
      exact ha.below g (List.mem_of_mem_erase hg)
    · intro g hg
      have hg' : Arbiter.standing { a with entries := a.entries.set s (Entry.gone s (a.entries.get s)) } g = .pending := hg
      rw [hst] at hg'
      by_cases e : g = s
      · simp [e] at hg'
      · simp only [e, if_false] at hg'
        exact ha.waiting g hg'
  all_goals
    rename_i hp
    refine ⟨?_, ?_, ha.rising, ha.below, ?_⟩
    · intro g
      rw [hst]
      by_cases e : g = s
      · subst e
        simp only [if_true]
        constructor
        · intro h; cases h
        · intro h
          have := (ha.governs g).mpr h
          rw [hp] at this
          cases this
      · simp only [e, if_false]
        exact ha.governs g
    · intro g
      rw [hst]
      by_cases e : g = s
      · subst e
        simp only [if_true]
        constructor
        · intro h; cases h
        · intro h
          have := (ha.held g).mpr h
          rw [hp] at this
          cases this
      · simp only [e, if_false]
        exact ha.held g
    · intro g hg
      rw [hst] at hg
      by_cases e : g = s
      · simp [e] at hg
      · simp only [e, if_false] at hg
        exact ha.waiting g hg

/-- An entry that leaves IDLE leaves the laws of R3 standing (R4). -/
theorem Arbiter.Lawful.leaveIdle {a : Arbiter} (ha : a.Lawful) (now : Nat) {s : Source} (hs : a.standing s = .idle) :
    (a.leaveIdle now s).Lawful := by
  unfold Arbiter.leaveIdle
  dsimp only
  have hst : ∀ g, Arbiter.standing { a with entries := a.entries.set s { a.entries.get s with stamp := now } } g = a.standing g := by
    intro g
    unfold Arbiter.standing
    by_cases h : g = s
    · subst h; simp
    · simp [PerSource.get_set_ne _ _ h]
  generalize hb : ({ a with entries := a.entries.set s { a.entries.get s with stamp := now } } : Arbiter) = b at hst
  have hgov : b.governor = a.governor := by subst hb; rfl
  have hstack : b.stack = a.stack := by subst hb; rfl
  have hsnot : s ∉ a.stack := by
    intro h
    rw [← ha.held, hs] at h
    cases h
  split
  · rename_i hlt
    split
    · rename_i hnone
      have hnil : a.stack = [] := by
        cases hs' : a.stack with
        | nil => rfl
        | cons x xs =>
          have := ha.below x (by simp [hs'])
          simp [Arbiter.authority, hnone] at this
      refine ⟨?_, ?_, ?_, ?_, ?_⟩
      · intro g
        show (b.withStanding s .governing).standing g = .governing ↔ some s = some g
        rw [Arbiter.standing_withStanding, hst]
        by_cases e : g = s
        · simp [e]
        · simp only [e, if_false]
          rw [ha.governs, hnone]
          simp [Ne.symm e]
      · intro g
        show (b.withStanding s .governing).standing g = .held ↔ g ∈ b.stack
        rw [Arbiter.standing_withStanding, hst, hstack, hnil]
        by_cases e : g = s
        · simp [e]
        · simp only [e, if_false]
          rw [ha.held, hnil]
      · show b.stack.Pairwise _
        rw [hstack]; exact ha.rising
      · intro g hg
        have : g ∈ b.stack := hg
        rw [hstack, hnil] at this
        simp at this
      · intro g hg
        have hg' : (b.withStanding s .governing).standing g = .pending := hg
        rw [Arbiter.standing_withStanding, hst] at hg'
        show sourceLevel g ≤ sourceLevel s
        by_cases e : g = s
        · simp [e] at hg'
        · simp only [e, if_false] at hg'
          have := ha.waiting g hg'
          omega
    · rename_i old hold
      have hauth : a.authority = sourceLevel old := by simp [Arbiter.authority, hold]
      have holdg : a.standing old = .governing := (ha.governs old).mpr hold
      have hne : old ≠ s := by
        rintro rfl
        rw [holdg] at hs
        cases hs
      refine ⟨?_, ?_, ?_, ?_, ?_⟩
      · intro g
        show ((b.withStanding old .held).withStanding s .governing).standing g = .governing ↔ some s = some g
        rw [Arbiter.standing_withStanding, Arbiter.standing_withStanding, hst]
        by_cases e : g = s
        · simp [e]
        · by_cases e' : g = old
          · simp [e', hne, Ne.symm hne]
          · simp only [e, e', if_false]
            rw [ha.governs, hold]
            simp [Ne.symm e, Ne.symm e']
      · intro g
        show ((b.withStanding old .held).withStanding s .governing).standing g = .held ↔ g ∈ a.stack ++ [old]
        rw [Arbiter.standing_withStanding, Arbiter.standing_withStanding, hst]
        by_cases e : g = s
        · subst e
          simp [hsnot, Ne.symm hne]
        · by_cases e' : g = old
          · simp [e', hne]
          · simp only [e, e', if_false]
            rw [ha.held]
            simp [e']
      · show (a.stack ++ [old]).Pairwise _
        rw [List.pairwise_append]
        refine ⟨ha.rising, by simp, fun x hx y hy => ?_⟩
        have : y = old := by simpa using hy
        subst this
        have := ha.below x hx
        omega
      · intro g hg
        show sourceLevel g < sourceLevel s
        have hg : g ∈ a.stack ++ [old] := hg
        rcases List.mem_append.mp hg with h | h
        · have := ha.below g h
          omega
        · have : g = old := by simpa using h
          subst this
          omega
      · intro g hg
        have hg' : ((b.withStanding old .held).withStanding s .governing).standing g = .pending := hg
        rw [Arbiter.standing_withStanding, Arbiter.standing_withStanding, hst] at hg'
        show sourceLevel g ≤ sourceLevel s
        by_cases e : g = s
        · simp [e] at hg'
        · by_cases e' : g = old
          · simp [e', hne] at hg'
          · simp only [e, e', if_false] at hg'
            have := ha.waiting g hg'
            omega
  · rename_i hge
    refine ⟨?_, ?_, ?_, ?_, ?_⟩
    · intro g
      show (b.withStanding s .pending).standing g = .governing ↔ b.governor = some g
      rw [Arbiter.standing_withStanding, hst, hgov]
      by_cases e : g = s
      · subst e
        simp only [if_true]
        constructor
        · intro h; cases h
        · intro h
          have := (ha.governs g).mpr h
          rw [hs] at this
          cases this
      · simp only [e, if_false]
        exact ha.governs g
    · intro g
      show (b.withStanding s .pending).standing g = .held ↔ g ∈ b.stack
      rw [Arbiter.standing_withStanding, hst, hstack]
      by_cases e : g = s
      · subst e
        simp [hsnot]
      · simp only [e, if_false]
        exact ha.held g
    · show b.stack.Pairwise _
      rw [hstack]; exact ha.rising
    · intro g hg
      have hg : g ∈ b.stack := hg
      rw [hstack] at hg
      show sourceLevel g < (match b.governor with | none => 0 | some g => sourceLevel g)
      rw [hgov]
      exact ha.below g hg
    · intro g hg
      have hg' : (b.withStanding s .pending).standing g = .pending := hg
      rw [Arbiter.standing_withStanding, hst] at hg'
      show sourceLevel g ≤ (match b.governor with | none => 0 | some g => sourceLevel g)
      rw [hgov]
      show sourceLevel g ≤ a.authority
      by_cases e : g = s
      · subst e; omega
      · simp only [e, if_false] at hg'
        exact ha.waiting g hg'

/-! ### Which entries are idle -/

theorem Arbiter.nonIdle_iff (a : Arbiter) (g : Source) : a.nonIdle g = true ↔ a.standing g ≠ .idle := by
  simp [Arbiter.nonIdle]

theorem Arbiter.nonIdle_withStanding (a : Arbiter) (s g : Source) {st : Standing} (hst : st ≠ .idle) :
    (a.withStanding s st).nonIdle g = (a.nonIdle g || g = s) := by
  unfold Arbiter.nonIdle
  rw [Arbiter.standing_withStanding]
  by_cases h : g = s <;> simp [h, hst]

/-- Re-evaluation makes no idle entry non-idle, and none idle, when the stack holds non-idle entries. -/
theorem Arbiter.Vacant.nonIdle_reevaluate {b : Arbiter} (hb : b.Vacant) (g : Source) :
    b.reevaluate.nonIdle g = b.nonIdle g := by
  have key : ∀ c, b.standing c ≠ .idle → (b.withStanding c .governing).nonIdle g = b.nonIdle g := by
    intro c hc
    rw [Arbiter.nonIdle_withStanding _ _ _ (by decide)]
    by_cases h : g = c
    · subst h; simp [(b.nonIdle_iff g).mpr hc]
    · simp [h]
  unfold Arbiter.reevaluate
  dsimp only
  have popped : Arbiter.nonIdle (match b.stack.getLast? with
      | none => { b with governor := none }
      | some t => { b.withStanding t .governing with governor := some t, stack := b.stack.dropLast }) g = b.nonIdle g := by
    split
    · rfl
    · rename_i t ht
      have hmem : t ∈ b.stack := by rw [dropLast_getLast ht]; simp
      have hheld := (hb.held t).mpr hmem
      exact key t (by rw [hheld]; decide)
  split
  · exact popped
  · rename_i c hc
    split
    · exact key c (by rw [(Arbiter.candidate_some hc).1]; decide)
    · exact popped

/-- Which entries are non-idle once one has gone IDLE. -/
theorem Arbiter.Lawful.nonIdle_goIdle {a : Arbiter} (ha : a.Lawful) (s g : Source) :
    (a.goIdle s).nonIdle g = (a.nonIdle g && !decide (g = s)) := by
  have hst := a.standing_gone s
  have base : Arbiter.nonIdle { a with entries := a.entries.set s (Entry.gone s (a.entries.get s)) } g
      = (a.nonIdle g && !decide (g = s)) := by
    unfold Arbiter.nonIdle
    rw [hst]
    by_cases h : g = s <;> simp [h]
  unfold Arbiter.goIdle
  dsimp only
  split
  · rename_i hg
    rw [Arbiter.Vacant.nonIdle_reevaluate, base]
    refine ⟨?_, ?_, ha.rising⟩
    · intro k h
      rw [hst] at h
      by_cases e : k = s
      · simp [e] at h
      · simp only [e, if_false] at h
        rw [ha.governs] at h hg
        rw [h] at hg
        exact e (Option.some.inj hg)
    · intro k
      rw [hst]
      by_cases e : k = s
      · subst e
        have : k ∉ a.stack := by
          intro h
          rw [← ha.held, hg] at h
          cases h
        simpa using this
      · simp only [e, if_false]
        exact ha.held k
  all_goals exact base

/-- Which entries are non-idle once one has left IDLE. -/
theorem Arbiter.nonIdle_leaveIdle (a : Arbiter) (now : Nat) (s g : Source)
    (hg : ∀ k, a.governor = some k → a.standing k ≠ .idle) :
    (a.leaveIdle now s).nonIdle g = (a.nonIdle g || g = s) := by
  have hst : ∀ k, Arbiter.standing { a with entries := a.entries.set s { a.entries.get s with stamp := now } } k = a.standing k := by
    intro k
    unfold Arbiter.standing
    by_cases h : k = s
    · subst h; simp
    · simp [PerSource.get_set_ne _ _ h]
  unfold Arbiter.leaveIdle
  dsimp only
  generalize ({ a with entries := a.entries.set s { a.entries.get s with stamp := now } } : Arbiter) = b at hst
  have hn : b.nonIdle g = a.nonIdle g := by unfold Arbiter.nonIdle; rw [hst]
  split
  · split
    · show (b.withStanding s .governing).nonIdle g = _
      rw [Arbiter.nonIdle_withStanding _ _ _ (by decide), hn]
    · rename_i old hold
      show ((b.withStanding old .held).withStanding s .governing).nonIdle g = _
      rw [Arbiter.nonIdle_withStanding _ _ _ (by decide), Arbiter.nonIdle_withStanding _ _ _ (by decide), hn]
      by_cases e : g = old
      · subst e; simp [(a.nonIdle_iff g).mpr (hg g hold)]
      · simp [e]
  · rw [Arbiter.nonIdle_withStanding _ _ _ (by decide), hn]

/-! ### Efforts and conditions -/

/-- The efforts of the entries: what R1 lets a transition touch only for the entry that goes IDLE. -/
theorem Arbiter.inForce_withStanding (a : Arbiter) (s g : Source) (st : Standing) :
    (a.withStanding s st).inForce g = a.inForce g := by
  unfold Arbiter.inForce Arbiter.withStanding
  by_cases h : g = s
  · subst h; simp
  · simp [PerSource.get_set_ne _ _ h]

theorem Arbiter.posted_withStanding (a : Arbiter) (s g : Source) (st : Standing) :
    ((a.withStanding s st).entries.get g).posted = (a.entries.get g).posted := by
  unfold Arbiter.withStanding
  by_cases h : g = s
  · subst h; simp
  · simp [PerSource.get_set_ne _ _ h]

/-- What re-evaluation leaves alone: it writes standings, the governor and the stack. -/
structure Arbiter.SameDemands (a b : Arbiter) : Prop where
  inForce : ∀ g, a.inForce g = b.inForce g
  posted : ∀ g, (a.entries.get g).posted = (b.entries.get g).posted
  lossRaisers : a.lossRaisers = b.lossRaisers
  emergencyRaisers : a.emergencyRaisers = b.emergencyRaisers
  penaltyRaised : a.penaltyRaised = b.penaltyRaised
  restraintRaised : a.restraintRaised = b.restraintRaised
  gateOpen : a.gateOpen = b.gateOpen
  bail : a.bail = b.bail
  direction : a.direction = b.direction
  standstill : a.standstill = b.standstill
  pipePresent : a.pipePresent = b.pipePresent
  lineAsserted : a.lineAsserted = b.lineAsserted
  healthyA : a.healthyA = b.healthyA
  healthyB : a.healthyB = b.healthyB
  healthyPipe : a.healthyPipe = b.healthyPipe
  cabFresh : a.cabFresh = b.cabFresh
  supervisionFresh : a.supervisionFresh = b.supervisionFresh
  configValid : a.configValid = b.configValid

theorem Arbiter.SameDemands.refl (a : Arbiter) : a.SameDemands a := by constructor <;> simp

theorem Arbiter.SameDemands.trans {a b c : Arbiter} (h : a.SameDemands b) (k : b.SameDemands c) : a.SameDemands c where
  inForce g := (h.inForce g).trans (k.inForce g)
  posted g := (h.posted g).trans (k.posted g)
  lossRaisers := h.lossRaisers.trans k.lossRaisers
  emergencyRaisers := h.emergencyRaisers.trans k.emergencyRaisers
  penaltyRaised := h.penaltyRaised.trans k.penaltyRaised
  restraintRaised := h.restraintRaised.trans k.restraintRaised
  gateOpen := h.gateOpen.trans k.gateOpen
  bail := h.bail.trans k.bail
  direction := h.direction.trans k.direction
  standstill := h.standstill.trans k.standstill
  pipePresent := h.pipePresent.trans k.pipePresent
  lineAsserted := h.lineAsserted.trans k.lineAsserted
  healthyA := h.healthyA.trans k.healthyA
  healthyB := h.healthyB.trans k.healthyB
  healthyPipe := h.healthyPipe.trans k.healthyPipe
  cabFresh := h.cabFresh.trans k.cabFresh
  supervisionFresh := h.supervisionFresh.trans k.supervisionFresh
  configValid := h.configValid.trans k.configValid

/-- A change of a standing, of the governor and of the stack leaves the demands alone. -/
theorem Arbiter.sameDemands_withStanding (a : Arbiter) (s : Source) (st : Standing) (gov : Option Source)
    (stack : List Source) :
    Arbiter.SameDemands { a.withStanding s st with governor := gov, stack := stack } a := by
  constructor
  case inForce => intro g; exact a.inForce_withStanding s g st
  case posted => intro g; exact a.posted_withStanding s g st
  all_goals rfl

/-- Re-evaluation leaves the demands alone (R6). -/
theorem Arbiter.sameDemands_reevaluate (a : Arbiter) : a.reevaluate.SameDemands a := by
  unfold Arbiter.reevaluate
  dsimp only
  have popped : Arbiter.SameDemands (match a.stack.getLast? with
      | none => { a with governor := none }
      | some t => { a.withStanding t .governing with governor := some t, stack := a.stack.dropLast }) a := by
    split
    · constructor <;> simp [Arbiter.inForce]
    · exact a.sameDemands_withStanding _ _ _ _
  split
  · exact popped
  · split
    · exact a.sameDemands_withStanding _ _ _ a.stack
    · exact popped

/-- An entry leaving IDLE leaves every effort and raiser alone (R4). -/
theorem Arbiter.sameDemands_leaveIdle (a : Arbiter) (now : Nat) (s : Source) : (a.leaveIdle now s).SameDemands a := by
  have hb : Arbiter.SameDemands { a with entries := a.entries.set s { a.entries.get s with stamp := now } } a := by
    constructor
    case inForce =>
      intro g
      unfold Arbiter.inForce
      by_cases h : g = s
      · subst h; simp
      · simp [PerSource.get_set_ne _ _ h]
    case posted =>
      intro g
      by_cases h : g = s
      · subst h; simp
      · simp [PerSource.get_set_ne _ _ h]
    all_goals rfl
  unfold Arbiter.leaveIdle
  dsimp only
  split
  · split
    · exact (Arbiter.sameDemands_withStanding _ s .governing (some s) a.stack).trans hb
    · rename_i old _
      refine Arbiter.SameDemands.trans (Arbiter.sameDemands_withStanding _ s .governing (some s) _) ?_
      exact (Arbiter.sameDemands_withStanding _ old .held a.governor a.stack).trans hb
  · exact (Arbiter.sameDemands_withStanding _ s .pending a.governor a.stack).trans hb

theorem Arbiter.SameDemands.wants {a b : Arbiter} (h : a.SameDemands b) (g : Source) : a.wants g = b.wants g := by
  cases g <;> simp [Arbiter.wants, h.inForce, h.lossRaisers, h.emergencyRaisers, h.penaltyRaised, h.restraintRaised]

/-- The in-force effort of an entry that goes IDLE becomes 0, and no other changes (R1). -/
theorem Arbiter.inForce_goIdle (a : Arbiter) (s g : Source) :
    (a.goIdle s).inForce g = if g = s then 0 else a.inForce g := by
  have base : Arbiter.inForce { a with entries := a.entries.set s (Entry.gone s (a.entries.get s)) } g
      = if g = s then 0 else a.inForce g := by
    unfold Arbiter.inForce
    by_cases h : g = s
    · subst h; simp [Entry.gone]
    · simp [PerSource.get_set_ne _ _ h, h]
  unfold Arbiter.goIdle
  dsimp only
  split
  · rw [(Arbiter.sameDemands_reevaluate _).inForce, base]
  all_goals exact base

/-- What going IDLE leaves alone besides the entry's own efforts. -/
theorem Arbiter.goIdle_raisers (a : Arbiter) (s : Source) :
    (a.goIdle s).lossRaisers = a.lossRaisers ∧ (a.goIdle s).emergencyRaisers = a.emergencyRaisers
    ∧ (a.goIdle s).penaltyRaised = a.penaltyRaised ∧ (a.goIdle s).restraintRaised = a.restraintRaised := by
  unfold Arbiter.goIdle
  dsimp only
  split
  · have h := Arbiter.sameDemands_reevaluate { a with entries := a.entries.set s (Entry.gone s (a.entries.get s)) }
    exact ⟨h.lossRaisers, h.emergencyRaisers, h.penaltyRaised, h.restraintRaised⟩
  all_goals exact ⟨rfl, rfl, rfl, rfl⟩

/-- An entry that must go IDLE takes no condition of R2 with it. -/
theorem Arbiter.wants_goIdle {a : Arbiter} {s : Source} (hs : a.wants s = false) (g : Source) :
    (a.goIdle s).wants g = a.wants g := by
  obtain ⟨h1, h2, h3, h4⟩ := a.goIdle_raisers s
  have key : ∀ k, (decide (0 < (a.goIdle s).inForce k)) = (decide (0 < a.inForce k)) ∨ k = s := by
    intro k
    rw [Arbiter.inForce_goIdle]
    by_cases e : k = s
    · exact .inr e
    · simp [e]
  cases g
  case s5 => simp [Arbiter.wants, h3]
  case s6 => simp [Arbiter.wants, h1]
  case s7 => simp [Arbiter.wants, h4]
  case s8 => simp [Arbiter.wants, h2]
  all_goals
    simp only [Arbiter.wants]
    rw [Arbiter.inForce_goIdle]
    split
    · rename_i e
      subst e
      simpa [Arbiter.wants] using hs.symm
    · rfl

/-- The fields that no step of R8 but the first touches. -/
structure Arbiter.SameFlags (a b : Arbiter) : Prop where
  lossRaisers : a.lossRaisers = b.lossRaisers
  emergencyRaisers : a.emergencyRaisers = b.emergencyRaisers
  penaltyRaised : a.penaltyRaised = b.penaltyRaised
  restraintRaised : a.restraintRaised = b.restraintRaised
  gateOpen : a.gateOpen = b.gateOpen
  bail : a.bail = b.bail
  direction : a.direction = b.direction
  standstill : a.standstill = b.standstill
  pipePresent : a.pipePresent = b.pipePresent
  lineAsserted : a.lineAsserted = b.lineAsserted
  healthyA : a.healthyA = b.healthyA
  healthyB : a.healthyB = b.healthyB
  healthyPipe : a.healthyPipe = b.healthyPipe
  cabFresh : a.cabFresh = b.cabFresh
  supervisionFresh : a.supervisionFresh = b.supervisionFresh
  configValid : a.configValid = b.configValid

theorem Arbiter.SameFlags.refl (a : Arbiter) : a.SameFlags a := by constructor <;> rfl

theorem Arbiter.SameFlags.trans {a b c : Arbiter} (h : a.SameFlags b) (k : b.SameFlags c) : a.SameFlags c where
  lossRaisers := h.lossRaisers.trans k.lossRaisers
  emergencyRaisers := h.emergencyRaisers.trans k.emergencyRaisers
  penaltyRaised := h.penaltyRaised.trans k.penaltyRaised
  restraintRaised := h.restraintRaised.trans k.restraintRaised
  gateOpen := h.gateOpen.trans k.gateOpen
  bail := h.bail.trans k.bail
  direction := h.direction.trans k.direction
  standstill := h.standstill.trans k.standstill
  pipePresent := h.pipePresent.trans k.pipePresent
  lineAsserted := h.lineAsserted.trans k.lineAsserted
  healthyA := h.healthyA.trans k.healthyA
  healthyB := h.healthyB.trans k.healthyB
  healthyPipe := h.healthyPipe.trans k.healthyPipe
  cabFresh := h.cabFresh.trans k.cabFresh
  supervisionFresh := h.supervisionFresh.trans k.supervisionFresh
  configValid := h.configValid.trans k.configValid

theorem Arbiter.SameDemands.flags {a b : Arbiter} (h : a.SameDemands b) : a.SameFlags b where
  lossRaisers := h.lossRaisers
  emergencyRaisers := h.emergencyRaisers
  penaltyRaised := h.penaltyRaised
  restraintRaised := h.restraintRaised
  gateOpen := h.gateOpen
  bail := h.bail
  direction := h.direction
  standstill := h.standstill
  pipePresent := h.pipePresent
  lineAsserted := h.lineAsserted
  healthyA := h.healthyA
  healthyB := h.healthyB
  healthyPipe := h.healthyPipe
  cabFresh := h.cabFresh
  supervisionFresh := h.supervisionFresh
  configValid := h.configValid

/-- Going IDLE leaves every flag and raiser set alone. -/
theorem Arbiter.sameFlags_goIdle (a : Arbiter) (s : Source) : (a.goIdle s).SameFlags a := by
  have base : Arbiter.SameFlags { a with entries := a.entries.set s (Entry.gone s (a.entries.get s)) } a := by
    constructor <;> rfl
  unfold Arbiter.goIdle
  dsimp only
  split
  · exact (Arbiter.sameDemands_reevaluate _).flags.trans base
  · constructor <;> rfl
  · exact base
  · exact base

/-- The posted effort that R1 leaves when an entry goes IDLE. -/
theorem Arbiter.posted_goIdle (a : Arbiter) (s g : Source) :
    ((a.goIdle s).entries.get g).posted
      = if g = s then (Entry.gone s (a.entries.get s)).posted else (a.entries.get g).posted := by
  have base : (({ a with entries := a.entries.set s (Entry.gone s (a.entries.get s)) } : Arbiter).entries.get g).posted
      = if g = s then (Entry.gone s (a.entries.get s)).posted else (a.entries.get g).posted := by
    by_cases h : g = s
    · subst h; simp
    · simp [PerSource.get_set_ne _ _ h, h]
  unfold Arbiter.goIdle
  dsimp only
  split
  · rw [(Arbiter.sameDemands_reevaluate _).posted, base]
  all_goals exact base

/-- One step of the fold of step 2 of R8. -/
def Arbiter.release (b : Arbiter) (s : Source) : Arbiter := if b.nonIdle s && !b.wants s then b.goIdle s else b

/-- One step of the fold of step 3 of R8. -/
def Arbiter.accept (now : Nat) (b : Arbiter) (s : Source) : Arbiter :=
  if !b.nonIdle s && b.wants s then b.leaveIdle now s else b

/-- Step 2 of R8: the laws of R3 stand, the conditions of R2 are as they were, and every non-idle entry has its condition. -/
theorem Arbiter.Lawful.goIdles {a : Arbiter} (ha : a.Lawful) :
    a.goIdles.Lawful ∧ (∀ g, a.goIdles.wants g = a.wants g)
    ∧ (∀ g, a.goIdles.nonIdle g = (a.nonIdle g && a.wants g)) ∧ a.goIdles.SameFlags a := by
  have main : ∀ (l : List Source) (b : Arbiter), b.Lawful →
      (l.foldl Arbiter.release b).Lawful
      ∧ (∀ g, (l.foldl Arbiter.release b).wants g = b.wants g)
      ∧ (∀ g, (l.foldl Arbiter.release b).nonIdle g = (b.nonIdle g && (b.wants g || !decide (g ∈ l))))
      ∧ (l.foldl Arbiter.release b).SameFlags b := by
    intro l
    induction l with
    | nil => intro b hb; exact ⟨hb, fun _ => rfl, fun g => by simp, .refl b⟩
    | cons x xs ih =>
      intro b hb
      rw [List.foldl_cons]
      by_cases hx : (b.nonIdle x && !b.wants x) = true
      · rw [show Arbiter.release b x = b.goIdle x by unfold Arbiter.release; rw [if_pos hx]]
        have hw : b.wants x = false := by
          rw [Bool.and_eq_true] at hx
          simpa using hx.2
        obtain ⟨p, q, r, f⟩ := ih _ (hb.goIdle x)
        refine ⟨p, fun g => (q g).trans (Arbiter.wants_goIdle hw g), fun g => ?_, f.trans (b.sameFlags_goIdle x)⟩
        rw [r, Arbiter.wants_goIdle hw, hb.nonIdle_goIdle]
        by_cases e : g = x
        · subst e; simp [hw]
        · simp [e]
      · rw [show Arbiter.release b x = b by unfold Arbiter.release; rw [if_neg hx]]
        obtain ⟨p, q, r, f⟩ := ih b hb
        refine ⟨p, q, fun g => ?_, f⟩
        rw [r]
        by_cases e : g = x
        · subst e
          revert hx
          cases b.nonIdle g <;> cases b.wants g <;> simp
        · simp [e]
  obtain ⟨p, q, r, f⟩ := main Source.all a ha
  refine ⟨p, q, fun g => ?_, f⟩
  have := r g
  simp only [Source.mem_all g, decide_true, Bool.not_true, Bool.or_false] at this
  exact this

/-- Step 3 of R8: the laws of R3 stand, no effort or raiser changes, and every entry with its condition is non-idle. -/
theorem Arbiter.Lawful.leaveIdles {a : Arbiter} (ha : a.Lawful) (now : Nat) :
    (a.leaveIdles now).Lawful ∧ (a.leaveIdles now).SameDemands a
    ∧ ∀ g, (a.leaveIdles now).nonIdle g = (a.nonIdle g || a.wants g) := by
  have main : ∀ (l : List Source) (b : Arbiter), b.Lawful →
      (l.foldl (Arbiter.accept now) b).Lawful
      ∧ (l.foldl (Arbiter.accept now) b).SameDemands b
      ∧ ∀ g, (l.foldl (Arbiter.accept now) b).nonIdle g = (b.nonIdle g || (b.wants g && decide (g ∈ l))) := by
    intro l
    induction l with
    | nil => intro b hb; exact ⟨hb, .refl b, fun g => by simp⟩
    | cons x xs ih =>
      intro b hb
      rw [List.foldl_cons]
      by_cases hx : (!b.nonIdle x && b.wants x) = true
      · rw [show Arbiter.accept now b x = b.leaveIdle now x by unfold Arbiter.accept; rw [if_pos hx]]
        rw [Bool.and_eq_true] at hx
        have hidle : b.standing x = .idle := by
          simpa [Arbiter.nonIdle] using hx.1
        obtain ⟨p, q, r⟩ := ih _ (hb.leaveIdle now hidle)
        refine ⟨p, q.trans (b.sameDemands_leaveIdle now x), fun g => ?_⟩
        rw [r, (b.sameDemands_leaveIdle now x).wants, b.nonIdle_leaveIdle now x g (fun k hk => by
          rw [(hb.governs k).mpr hk]; decide)]
        by_cases e : g = x
        · subst e; simp [hx.2]
        · simp [e]
      · rw [show Arbiter.accept now b x = b by unfold Arbiter.accept; rw [if_neg hx]]
        obtain ⟨p, q, r⟩ := ih b hb
        refine ⟨p, q, fun g => ?_⟩
        rw [r]
        by_cases e : g = x
        · subst e
          revert hx
          cases b.nonIdle g <;> cases b.wants g <;> simp
        · simp [e]
  obtain ⟨p, q, r⟩ := main Source.all a ha
  refine ⟨p, q, fun g => ?_⟩
  have := r g
  simp only [Source.mem_all g, decide_true, Bool.and_true] at this
  exact this

/-- The efforts after step 2 of R8: those of an entry that went IDLE are as R1 says, and no others changed. -/
theorem Arbiter.goIdles_efforts (a : Arbiter) (g : Source) :
    (a.goIdles.inForce g = a.inForce g ∧ (a.goIdles.entries.get g).posted = (a.entries.get g).posted)
    ∨ (a.wants g = false ∧ a.goIdles.inForce g = 0
        ∧ (a.goIdles.entries.get g).posted = (Entry.gone g (a.entries.get g)).posted) := by
  have main : ∀ (l : List Source) (b : Arbiter),
      ((l.foldl Arbiter.release b).inForce g = b.inForce g
        ∧ ((l.foldl Arbiter.release b).entries.get g).posted = (b.entries.get g).posted)
      ∨ (b.wants g = false ∧ (l.foldl Arbiter.release b).inForce g = 0
        ∧ ((l.foldl Arbiter.release b).entries.get g).posted = (Entry.gone g (b.entries.get g)).posted) := by
    intro l
    induction l with
    | nil => intro b; exact .inl ⟨rfl, rfl⟩
    | cons x xs ih =>
      intro b
      rw [List.foldl_cons]
      by_cases hx : (b.nonIdle x && !b.wants x) = true
      · rw [show Arbiter.release b x = b.goIdle x by unfold Arbiter.release; rw [if_pos hx]]
        have hw : b.wants x = false := by
          rw [Bool.and_eq_true] at hx
          simpa using hx.2
        have h := ih (b.goIdle x)
        rw [Arbiter.wants_goIdle hw] at h
        by_cases e : g = x
        · subst e
          rw [Arbiter.inForce_goIdle, if_pos rfl, Arbiter.posted_goIdle, if_pos rfl] at h
          refine .inr ⟨hw, ?_⟩
          rcases h with h | ⟨_, h1, h2⟩
          · exact h
          · refine ⟨h1, h2.trans ?_⟩
            have : ((b.goIdle g).entries.get g).posted = (Entry.gone g (b.entries.get g)).posted := by
              rw [Arbiter.posted_goIdle, if_pos rfl]
            cases g <;> simp_all [Entry.gone]
        · rw [Arbiter.inForce_goIdle, if_neg e, Arbiter.posted_goIdle, if_neg e] at h
          rcases h with h | ⟨h0, h1, h2⟩
          · exact .inl h
          · refine .inr ⟨h0, h1, h2.trans ?_⟩
            have : ((b.goIdle x).entries.get g).posted = (b.entries.get g).posted := by
              rw [Arbiter.posted_goIdle, if_neg e]
            cases g <;> simp_all [Entry.gone]
      · rw [show Arbiter.release b x = b by unfold Arbiter.release; rw [if_neg hx]]
        exact ih b
  exact main Source.all a

/-- The law of the arbiter that a set of entries with the same standings, governor and stack keeps. -/
theorem Arbiter.Lawful.of_same {a b : Arbiter} (ha : a.Lawful) (h1 : ∀ g, b.standing g = a.standing g)
    (h2 : b.governor = a.governor) (h3 : b.stack = a.stack) : b.Lawful where
  governs g := by rw [h1, h2]; exact ha.governs g
  held g := by rw [h1, h3]; exact ha.held g
  rising := by rw [h3]; exact ha.rising
  below g hg := by
    rw [h3] at hg
    have := ha.below g hg
    simpa [Arbiter.authority, h2] using this
  waiting g hg := by
    rw [h1] at hg
    have := ha.waiting g hg
    simpa [Arbiter.authority, h2] using this

/-- The in-force effort that is set, and the others. -/
theorem Arbiter.inForce_withEfforts (a : Arbiter) (s g : Source) (p i : Nat) :
    (a.withEfforts s p i).inForce g = if g = s then i else a.inForce g := by
  unfold Arbiter.inForce Arbiter.withEfforts
  by_cases h : g = s
  · subst h; simp
  · simp [PerSource.get_set_ne _ _ h, h]

/-- The posted effort that is set, and the others. -/
theorem Arbiter.posted_withEfforts (a : Arbiter) (s g : Source) (p i : Nat) :
    ((a.withEfforts s p i).entries.get g).posted = if g = s then p else (a.entries.get g).posted := by
  unfold Arbiter.withEfforts
  by_cases h : g = s
  · subst h; simp
  · simp [PerSource.get_set_ne _ _ h, h]

/-- An entry's stamp is not an effort. -/
theorem Arbiter.stamp_withEfforts (a : Arbiter) (s g : Source) (p i : Nat) :
    ((a.withEfforts s p i).entries.get g).stamp = (a.entries.get g).stamp := by
  unfold Arbiter.withEfforts
  by_cases h : g = s
  · subst h; simp
  · simp [PerSource.get_set_ne _ _ h]

/-- Changing efforts changes no flag. -/
theorem Arbiter.sameFlags_withEfforts (a : Arbiter) (s : Source) (p i : Nat) : (a.withEfforts s p i).SameFlags a := by
  constructor <;> rfl

/-- What the refresh of the parameter efforts does (R2). -/
theorem Arbiter.refreshEfforts_spec (a : Arbiter) (cfg : ConfigSet) :
    (∀ g, (a.refreshEfforts cfg).standing g = a.standing g) ∧ (a.refreshEfforts cfg).governor = a.governor
    ∧ (a.refreshEfforts cfg).stack = a.stack ∧ (a.refreshEfforts cfg).SameFlags a
    ∧ (∀ g, g ≠ .s6 → g ≠ .s7 → g ≠ .s8 → (a.refreshEfforts cfg).inForce g = a.inForce g
        ∧ ((a.refreshEfforts cfg).entries.get g).posted = (a.entries.get g).posted)
    ∧ (∀ g, ((a.refreshEfforts cfg).entries.get g).stamp = (a.entries.get g).stamp)
    ∧ (a.refreshEfforts cfg).inForce .s6 = (if a.nonIdle .s6 then cfg.penaltyEffort else 0)
    ∧ (a.refreshEfforts cfg).inForce .s7 = (if a.nonIdle .s7 then cfg.restraintEffort else 0)
    ∧ (a.refreshEfforts cfg).inForce .s8 = (if a.nonIdle .s8 then cfg.emergencyEffort else 0) := by
  unfold Arbiter.refreshEfforts
  dsimp only
  refine ⟨fun g => ?_, rfl, rfl, by constructor <;> rfl, fun g h6 h7 h8 => ⟨?_, ?_⟩, fun g => ?_, ?_, ?_, ?_⟩
  all_goals simp [Arbiter.standing_withEfforts, Arbiter.inForce_withEfforts, Arbiter.posted_withEfforts,
    Arbiter.stamp_withEfforts, Arbiter.nonIdle, *]

/-- The conditions of R2 rest on the flags, the raiser sets and the efforts of S0 to S4. -/
theorem Arbiter.SameFlags.wants {a b : Arbiter} (f : b.SameFlags a)
    (h : ∀ g, g ≠ .s5 → g ≠ .s6 → g ≠ .s7 → g ≠ .s8 → b.inForce g = a.inForce g) (g : Source) :
    b.wants g = a.wants g := by
  cases g <;>
    simp [Arbiter.wants, f.lossRaisers, f.emergencyRaisers, f.penaltyRaised, f.restraintRaised, h]

/-- What the end of every event of the arbiter leaves, from an arbiter that keeps R3 (R2, R3, R8). -/
structure Arbiter.Settled (cfg : ConfigSet) (a b : Arbiter) : Prop where
  lawful : b.Lawful
  conditioned : b.Conditioned
  nonIdle : ∀ g, b.nonIdle g = a.wants g
  flags : b.SameFlags a
  inForce : ∀ g, g ≠ .s6 → g ≠ .s7 → g ≠ .s8 → a.wants g = true → b.inForce g = a.inForce g
  idle : ∀ g, g ≠ .s5 → g ≠ .s6 → g ≠ .s7 → g ≠ .s8 → b.inForce g = a.inForce g
  posted : ∀ g, g ≠ .s6 → g ≠ .s7 → g ≠ .s8 → a.wants g = true → (b.entries.get g).posted = (a.entries.get g).posted
  handles : ∀ g, g = .s0 ∨ g = .s1 ∨ g = .s3 → (b.entries.get g).posted = (a.entries.get g).posted
  s6 : b.inForce .s6 = if a.wants .s6 then cfg.penaltyEffort else 0
  s7 : b.inForce .s7 = if a.wants .s7 then cfg.restraintEffort else 0
  s8 : b.inForce .s8 = if a.wants .s8 then cfg.emergencyEffort else 0
  record : b.record = b.buildRecord

/-- After every event of the arbiter the laws of R3 stand, and each entry is non-idle exactly under its condition of R2 (R8). -/
theorem Arbiter.settle_settled {a : Arbiter} (ha : a.Lawful) (cfg : ConfigSet) (now : Nat) :
    Arbiter.Settled cfg a (Arbiter.settle cfg now a) := by
  obtain ⟨p1, q1, r1, f1⟩ := ha.goIdles
  obtain ⟨p2, q2, r2⟩ := p1.leaveIdles now
  have e1 := a.goIdles_efforts
  unfold Arbiter.settle
  dsimp only
  generalize a.goIdles = x at *
  generalize x.leaveIdles now = y at *
  obtain ⟨s1, s2, s3, s4, s5, _, s6, s7, s8⟩ := Arbiter.refreshEfforts_spec y cfg
  generalize y.refreshEfforts cfg = z at *
  have hy : ∀ g, y.nonIdle g = a.wants g := by
    intro g
    rw [r2, r1, q1]
    cases a.nonIdle g <;> simp
  have hz : ∀ g, z.nonIdle g = a.wants g := by
    intro g
    rw [← hy]
    unfold Arbiter.nonIdle
    rw [s1]
  have hflags : z.SameFlags a := s4.trans (q2.flags.trans f1)
  have hforce : ∀ g, g ≠ .s6 → g ≠ .s7 → g ≠ .s8 → a.wants g = true → z.inForce g = a.inForce g := by
    intro g h6 h7 h8 hw
    rw [(s5 g h6 h7 h8).1, q2.inForce]
    rcases e1 g with h | h
    · exact h.1
    · rw [hw] at h; exact absurd h.1 (by decide)
  have hidle : ∀ g, g ≠ .s5 → g ≠ .s6 → g ≠ .s7 → g ≠ .s8 → z.inForce g = a.inForce g := by
    intro g h5 h6 h7 h8
    rw [(s5 g h6 h7 h8).1, q2.inForce]
    rcases e1 g with h | ⟨h0, h1, _⟩
    · exact h.1
    · rw [h1]
      cases g <;> simp_all [Arbiter.wants]
  have hw : ∀ g, Arbiter.wants { z with record := z.buildRecord } g = a.wants g := by
    intro g
    exact Arbiter.SameFlags.wants (a := a) ⟨hflags.1, hflags.2, hflags.3, hflags.4, hflags.5, hflags.6, hflags.7,
      hflags.8, hflags.9, hflags.10, hflags.11, hflags.12, hflags.13, hflags.14, hflags.15, hflags.16⟩ hidle g
  have hnon : ∀ g, Arbiter.nonIdle { z with record := z.buildRecord } g = z.nonIdle g := fun _ => rfl
  refine ⟨(p2.of_same s1 s2 s3).of_same (fun _ => rfl) rfl rfl, fun g => ?_, fun g => ?_, ?_, ?_, ?_, ?_, ?_, ?_, ?_, ?_, rfl⟩
  · rw [hw, hnon, hz]
  · rw [hnon, hz]
  · exact ⟨hflags.1, hflags.2, hflags.3, hflags.4, hflags.5, hflags.6, hflags.7, hflags.8, hflags.9, hflags.10,
      hflags.11, hflags.12, hflags.13, hflags.14, hflags.15, hflags.16⟩
  · exact hforce
  · exact hidle
  · intro g h6 h7 h8 hw
    show (z.entries.get g).posted = _
    rw [(s5 g h6 h7 h8).2, q2.posted]
    rcases e1 g with h | h
    · exact h.2
    · rw [hw] at h; exact absurd h.1 (by decide)
  · intro g hg
    show (z.entries.get g).posted = _
    rw [(s5 g (by rcases hg with rfl | rfl | rfl <;> decide) (by rcases hg with rfl | rfl | rfl <;> decide)
      (by rcases hg with rfl | rfl | rfl <;> decide)).2, q2.posted]
    rcases e1 g with h | ⟨_, _, h⟩
    · exact h.2
    · rw [h]; rcases hg with rfl | rfl | rfl <;> rfl
  · show z.inForce .s6 = _; rw [s6, hy]
  · show z.inForce .s7 = _; rw [s7, hy]
  · show z.inForce .s8 = _; rw [s8, hy]

/-! ### Stamps, and events that move no entry -/

theorem Arbiter.stamp_withStanding (a : Arbiter) (s g : Source) (st : Standing) :
    ((a.withStanding s st).entries.get g).stamp = (a.entries.get g).stamp := by
  unfold Arbiter.withStanding
  by_cases h : g = s
  · subst h; simp
  · simp [PerSource.get_set_ne _ _ h]

theorem Arbiter.stamp_reevaluate (a : Arbiter) (g : Source) :
    (a.reevaluate.entries.get g).stamp = (a.entries.get g).stamp := by
  have popped : ((Arbiter.entries (match a.stack.getLast? with
      | none => { a with governor := none }
      | some t => { a.withStanding t .governing with governor := some t, stack := a.stack.dropLast })).get g).stamp
        = (a.entries.get g).stamp := by
    split
    · rfl
    · exact a.stamp_withStanding _ g _
  unfold Arbiter.reevaluate
  dsimp only
  split
  · exact popped
  · split
    · exact a.stamp_withStanding _ g _
    · exact popped

/-- Going IDLE writes no stamp (R1). -/
theorem Arbiter.stamp_goIdle (a : Arbiter) (s g : Source) :
    ((a.goIdle s).entries.get g).stamp = (a.entries.get g).stamp := by
  have base : (({ a with entries := a.entries.set s (Entry.gone s (a.entries.get s)) } : Arbiter).entries.get g).stamp
      = (a.entries.get g).stamp := by
    by_cases h : g = s
    · subst h; simp [Entry.gone]
    · simp [PerSource.get_set_ne _ _ h]
  unfold Arbiter.goIdle
  dsimp only
  split
  · rw [Arbiter.stamp_reevaluate, base]
  all_goals exact base

/-- Leaving IDLE writes the entry's stamp and no other (R1). -/
theorem Arbiter.stamp_leaveIdle (a : Arbiter) (now : Nat) (s g : Source) :
    ((a.leaveIdle now s).entries.get g).stamp = if g = s then now else (a.entries.get g).stamp := by
  have base : (({ a with entries := a.entries.set s { a.entries.get s with stamp := now } } : Arbiter).entries.get g).stamp
      = if g = s then now else (a.entries.get g).stamp := by
    by_cases h : g = s
    · subst h; simp
    · simp [PerSource.get_set_ne _ _ h, h]
  unfold Arbiter.leaveIdle
  dsimp only
  split
  · split
    · exact (Arbiter.stamp_withStanding _ _ g _).trans base
    · exact (Arbiter.stamp_withStanding _ _ g _).trans ((Arbiter.stamp_withStanding _ _ g _).trans base)
  · exact (Arbiter.stamp_withStanding _ _ g _).trans base

theorem Arbiter.stamp_goIdles (a : Arbiter) (g : Source) :
    (a.goIdles.entries.get g).stamp = (a.entries.get g).stamp := by
  have main : ∀ (l : List Source) (b : Arbiter),
      ((l.foldl Arbiter.release b).entries.get g).stamp = (b.entries.get g).stamp := by
    intro l
    induction l with
    | nil => intro b; rfl
    | cons x xs ih =>
      intro b
      rw [List.foldl_cons, ih]
      unfold Arbiter.release
      split
      · exact b.stamp_goIdle x g
      · rfl
  exact main Source.all a

/-- Step 3 of R8 stamps the entries that it takes (R1). -/
theorem Arbiter.Lawful.stamp_leaveIdles {a : Arbiter} (ha : a.Lawful) (now : Nat) (g : Source) :
    ((a.leaveIdles now).entries.get g).stamp
      = if a.wants g && !a.nonIdle g then now else (a.entries.get g).stamp := by
  have main : ∀ (l : List Source) (b : Arbiter), b.Lawful →
      ((l.foldl (Arbiter.accept now) b).entries.get g).stamp
        = if b.wants g && !b.nonIdle g && decide (g ∈ l) then now else (b.entries.get g).stamp := by
    intro l
    induction l with
    | nil => intro b _; simp
    | cons x xs ih =>
      intro b hb
      rw [List.foldl_cons]
      by_cases hx : (!b.nonIdle x && b.wants x) = true
      · rw [show Arbiter.accept now b x = b.leaveIdle now x by unfold Arbiter.accept; rw [if_pos hx]]
        rw [Bool.and_eq_true] at hx
        have hidle : b.standing x = .idle := by simpa [Arbiter.nonIdle] using hx.1
        rw [ih _ (hb.leaveIdle now hidle), (b.sameDemands_leaveIdle now x).wants, b.nonIdle_leaveIdle now x g (fun k hk => by
          rw [(hb.governs k).mpr hk]; decide), b.stamp_leaveIdle]
        by_cases e : g = x
        · subst e
          have h1 : b.nonIdle g = false := by simpa using hx.1
          simp [hx.2, h1]
        · simp [e]
      · rw [show Arbiter.accept now b x = b by unfold Arbiter.accept; rw [if_neg hx]]
        rw [ih b hb]
        by_cases e : g = x
        · subst e
          revert hx
          cases b.nonIdle g <;> cases b.wants g <;> simp
        · simp [e]
  have := main Source.all a ha
  simp only [Source.mem_all g, decide_true, Bool.and_true] at this
  exact this

/-- An arbiter whose entries all stand as their conditions ask is left as it is by steps 2 and 3 of R8 (R5). -/
theorem Arbiter.steps_still {a : Arbiter} (h : a.Conditioned) (now : Nat) : a.goIdles.leaveIdles now = a := by
  have one : ∀ l : List Source, l.foldl Arbiter.release a = a := by
    intro l
    induction l with
    | nil => rfl
    | cons x xs ih =>
      rw [List.foldl_cons]
      have : Arbiter.release a x = a := by
        unfold Arbiter.release
        rw [h x, if_neg (by cases a.wants x <;> simp)]
      rw [this, ih]
  have two : ∀ l : List Source, l.foldl (Arbiter.accept now) a = a := by
    intro l
    induction l with
    | nil => rfl
    | cons x xs ih =>
      rw [List.foldl_cons]
      have : Arbiter.accept now a x = a := by
        unfold Arbiter.accept
        rw [h x, if_neg (by cases a.wants x <;> simp)]
      rw [this, ih]
  have h1 : a.goIdles = a := one Source.all
  rw [h1]
  exact two Source.all

/-- Step 2 of R8 leaves the efforts of an entry that does not go IDLE (R1). -/
theorem Arbiter.Lawful.goIdles_kept {a : Arbiter} (ha : a.Lawful) (g : Source)
    (h : a.nonIdle g = true → a.wants g = true) :
    a.goIdles.inForce g = a.inForce g ∧ (a.goIdles.entries.get g).posted = (a.entries.get g).posted := by
  have main : ∀ (l : List Source) (b : Arbiter), b.Lawful → (b.nonIdle g = true → b.wants g = true) →
      (l.foldl Arbiter.release b).inForce g = b.inForce g
        ∧ ((l.foldl Arbiter.release b).entries.get g).posted = (b.entries.get g).posted := by
    intro l
    induction l with
    | nil => intro b _ _; exact ⟨rfl, rfl⟩
    | cons x xs ih =>
      intro b hb hg
      rw [List.foldl_cons]
      by_cases hx : (b.nonIdle x && !b.wants x) = true
      · rw [show Arbiter.release b x = b.goIdle x by unfold Arbiter.release; rw [if_pos hx]]
        rw [Bool.and_eq_true] at hx
        have hw : b.wants x = false := by simpa using hx.2
        have e : g ≠ x := by
          intro e
          subst e
          rw [hg hx.1] at hw
          cases hw
        have := ih (b.goIdle x) (hb.goIdle x) (by
          rw [Arbiter.wants_goIdle hw, hb.nonIdle_goIdle]
          simpa [e] using hg)
        rw [Arbiter.inForce_goIdle, if_neg e, Arbiter.posted_goIdle, if_neg e] at this
        exact this
      · rw [show Arbiter.release b x = b by unfold Arbiter.release; rw [if_neg hx]]
        exact ih b hb hg
  exact main Source.all a ha h

/-- What one event of the arbiter leaves, where its first step keeps the table's standings and touches the conditions of some sources alone (R8). -/
theorem Arbiter.follows_settle {a b : Arbiter} (ha : a.Lawful) (hc : a.Conditioned) (cfg : ConfigSet) (now : Nat)
    (touched : List Source)
    (hst : ∀ g, b.standing g = a.standing g) (hgov : b.governor = a.governor) (hstack : b.stack = a.stack)
    (hstamp : ∀ g, (b.entries.get g).stamp = (a.entries.get g).stamp)
    (hwants : ∀ g, g ∉ touched → b.wants g = a.wants g)
    (heff : ∀ g, g ∉ touched → g ≠ .s6 → g ≠ .s7 → g ≠ .s8 →
      (b.entries.get g).posted = (a.entries.get g).posted ∧ b.inForce g = a.inForce g) :
    Arbiter.Follows cfg now touched a (Arbiter.settle cfg now b) := by
  have hb : b.Lawful := ha.of_same hst hgov hstack
  have hs := Arbiter.settle_settled hb cfg now
  have hn : ∀ g, b.nonIdle g = a.nonIdle g := fun g => by unfold Arbiter.nonIdle; rw [hst]
  obtain ⟨p1, q1, r1, f1⟩ := hb.goIdles
  obtain ⟨p2, q2, r2⟩ := p1.leaveIdles now
  have fresh := Arbiter.refreshEfforts_spec (b.goIdles.leaveIdles now) cfg
  obtain ⟨z, hz, hset⟩ : ∃ z, z = (b.goIdles.leaveIdles now).refreshEfforts cfg
    ∧ Arbiter.settle cfg now b = { z with record := z.buildRecord } := ⟨_, rfl, rfl⟩
  rw [← hz] at fresh
  refine ⟨hs.lawful, hs.conditioned, fun g hg => ?_, fun g hg h6 h7 h8 => ?_, fun g => ?_, fun h => ?_, ?_, ?_, ?_, hs.record⟩
  · rw [hs.nonIdle, hwants g hg, ← hc g]
  · have kept := hb.goIdles_kept g (by rw [hn, hwants g hg, hc g]; exact id)
    have e := fresh.2.2.2.2.1 g h6 h7 h8
    refine ⟨?_, ?_⟩
    · rw [hset]
      show (z.entries.get g).posted = _
      rw [e.2, q2.posted, kept.2, (heff g hg h6 h7 h8).1]
    · rw [hset]
      show z.inForce g = _
      rw [e.1, q2.inForce, kept.1, (heff g hg h6 h7 h8).2]
      rfl
  · rw [hs.nonIdle]
    rw [hset]
    show (z.entries.get g).stamp = _
    rw [fresh.2.2.2.2.2.1, p1.stamp_leaveIdles, q1, r1, Arbiter.stamp_goIdles, hstamp, hn]
    cases b.wants g <;> cases a.nonIdle g <;> simp
  · have hw : b.Conditioned := fun g => by rw [hn, ← h g, hs.nonIdle]
    have := Arbiter.steps_still hw now
    constructor
    · rw [hset]
      show z.governor = _
      rw [fresh.2.1, this, hgov]
    · rw [hset]
      show z.stack = _
      rw [fresh.2.2.1, this, hstack]
  · rw [hs.s6, hs.nonIdle]
  · rw [hs.s7, hs.nonIdle]
  · rw [hs.s8, hs.nonIdle]

end Sys2Proof.Machine
end

