-- ==== Sys2Proof/Laws/Events.lean ====
section
/-! SUPPORT. What one event of the arbiter does to the part, and what placing a reply does to the ports. -/

namespace Sys2Proof.Machine

/-! ### The ports -/

/-- Starting a transmission moves no frame out of its place in a port's line (R163). -/
theorem Ports.line_start (ps : Ports) (p q : PortId) : (ps.start p).line q = ps.line q := by
  rcases ps.start_cases p with h | ⟨o, hp, ho, hs, h⟩ | ⟨f, fs, hr, hs, h⟩
  · rw [h]
  · subst hp
    rw [h]
    unfold Ports.line Ports.withPort
    by_cases e : q = .traction
    · subst e; simp [hs, ho]
    · simp [PerPort.get_set_ne _ _ e, e]
  · by_cases e : q = p
    · subst e
      rw [h]
      unfold Ports.line Ports.withPort
      have horder : (if q = .traction then ps.order.toList.map EffortOrder.frame else []) = [] := by
        have hst := h
        unfold Ports.start at hst
        dsimp only at hst
        rw [hs] at hst
        dsimp only at hst
        by_cases hq : q = .traction
        · subst hq
          cases ho : ps.order with
          | none => rfl
          | some o =>
            rw [ho] at hst
            simp only [if_true] at hst
            have := congrArg Ports.order hst
            simp [Ports.withPort, ho] at this
        · simp [hq]
      simp only [PerPort.get_set_self]
      rw [horder, hs, hr]
      simp
    · rw [h]
      unfold Ports.line Ports.withPort
      simp [PerPort.get_set_ne _ _ e]

/-- Starting a transmission at a port leaves the other ports and the assembly alone. -/
theorem Ports.start_rest (ps : Ports) (p : PortId) :
    (∀ q, q ≠ p → (ps.start p).port.get q = ps.port.get q)
    ∧ ((ps.start p).port.get p).assembly = (ps.port.get p).assembly
    ∧ (p ≠ .traction → (ps.start p).order = ps.order)
    ∧ ps.start p = { ps with port := (ps.start p).port, order := (ps.start p).order } := by
  rcases ps.start_cases p with h | ⟨o, hp, ho, hs, h⟩ | ⟨f, fs, hr, hs, h⟩ <;> rw [h]
  · exact ⟨fun _ _ => rfl, rfl, fun _ => rfl, rfl⟩
  · refine ⟨fun q hq => by simp [Ports.withPort, PerPort.get_set_ne _ _ hq], by simp [Ports.withPort],
      fun hn => absurd hp hn, rfl⟩
  · exact ⟨fun q hq => by simp [Ports.withPort, PerPort.get_set_ne _ _ hq], by simp [Ports.withPort], fun _ => rfl, rfl⟩

/-- A reply placed at a port stands last in its line (R162, R163). -/
theorem Ports.place_queued (ps : Ports) (p : PortId) (f : Frame) : ps.Queued (ps.place p f) p f := by
  obtain ⟨h1, h2, h3, h4⟩ := Ports.start_rest (ps.withPort p { ps.port.get p with replies := (ps.port.get p).replies ++ [f] }) p
  refine ⟨?_, ?_, ?_, ?_, ?_⟩
  · unfold Ports.place
    rw [Ports.line_start]
    simp [Ports.line, Ports.withPort]
  · unfold Ports.place
    rw [h2]
    simp [Ports.withPort]
  · intro q hq
    unfold Ports.place
    rw [h1 q hq]
    simp [Ports.withPort, PerPort.get_set_ne _ _ hq]
  · intro hp
    unfold Ports.place
    rw [h3 hp]
    rfl
  · unfold Ports.place
    exact h4

/-- A reply is placed (R162). -/
theorem State.reply_replied (s : State) (p : PortId) (k : Byte) (r : Result) (d : List Byte) :
    s.Replied (s.reply p k r d) p (replyFrame k r d) :=
  ⟨Ports.place_queued _ _ _, rfl⟩

/-! ### The arbiter's events -/

/-- What an event of the arbiter does to the rest of the part. -/
theorem State.arbiterEvent_reports (f : Arbiter → Arbiter) (s : State) : ArbiterReports s (s.arbiterEvent f) := by
  have hd : (s.arbiterEvent f).deliveries = s.deliveries ++ arbiterDeliveries s.arbiter (s.arbiterEvent f).arbiter := rfl
  have hm : (s.arbiterEvent f).matrix = { s.matrix with
    functions := ventFunctions s.arbiter (s.arbiterEvent f).arbiter s.matrix.functions } := rfl
  have left : ∀ g, s.arbiter.left (s.arbiterEvent f).arbiter g → leftIdle s.arbiter (s.arbiterEvent f).arbiter g = true := by
    intro g h
    unfold leftIdle
    rw [h.1, h.2]
    rfl
  have stay : ∀ g, ¬ s.arbiter.left (s.arbiterEvent f).arbiter g → leftIdle s.arbiter (s.arbiterEvent f).arbiter g = false := by
    intro g h
    unfold Arbiter.left at h
    unfold leftIdle
    revert h
    cases s.arbiter.nonIdle g <;> cases (s.arbiterEvent f).arbiter.nonIdle g <;> simp
  generalize hb : (s.arbiterEvent f).arbiter = b at *
  refine ⟨?_, ?_, ?_, ?_, ?_, ?_, ?_, ?_⟩
  · rw [hm, hb]
    dsimp only
    unfold ventFunctions
    split <;> rfl
  · rw [hm]
    dsimp only
    unfold ventFunctions
    split <;> rfl
  · rfl
  · intro h
    rw [hb] at h
    rw [hd]
    simp [arbiterDeliveries, stay _ (h .s8), stay _ (h .s5), stay _ (h .s6)]
  · intro h
    rw [hb] at h
    refine ⟨(if leftIdle s.arbiter b .s5 then [.triggerArrival (.penaltyAccepted .s5)] else [])
      ++ (if leftIdle s.arbiter b .s6 then [.triggerArrival (.penaltyAccepted (.s6 b.lossRaisers.first))] else []), ?_⟩
    rw [hd, hb]
    unfold arbiterDeliveries
    rw [left _ h]
    simp only [if_true, List.append_assoc]
  · intro h
    rw [hb] at h
    rw [hd]
    simp [arbiterDeliveries, left _ h]
  · intro h
    rw [hb] at h
    rw [hd, hb]
    simp [arbiterDeliveries, left _ h]
  · intro c hc hn
    rw [hd] at hc
    rcases List.mem_append.mp hc with h | h
    · exact absurd h hn
    · unfold arbiterDeliveries at h
      rcases List.mem_append.mp h with h | h
      · rcases List.mem_append.mp h with h | h
        · split at h
          · simp at h
            rcases h with rfl | rfl | rfl
            · exact .inl rfl
            · exact .inr (.inl rfl)
            · exact .inr (.inr (.inl ⟨_, rfl⟩))
          · cases h
        · split at h
          · simp at h
            exact .inr (.inr (.inr ⟨_, h⟩))
          · cases h
      · split at h
        · simp at h
          exact .inr (.inr (.inr ⟨_, h⟩))
        · cases h

/-- Every event of the arbiter writes its table by the steps of R8, and nothing else of the arbiter. -/
theorem State.arbiterEvent_rest {f : Arbiter → Arbiter} {s : State} (h : (f s.arbiter).Lawful) :
    Arbiter.Rest (f s.arbiter) (s.arbiterEvent f).arbiter := by
  obtain ⟨h1, h2, h3, h4, h5, h6, h7, h8, h9, h10, h11, h12, h13, h14, h15, h16⟩ :=
    (Arbiter.settle_settled h s.cfg s.time).flags
  rw [State.arbiterEvent_arbiter]
  generalize Arbiter.settle s.cfg s.time (f s.arbiter) = b at *
  generalize f s.arbiter = a at *
  cases a
  cases b
  unfold Arbiter.Rest
  simp_all

end Sys2Proof.Machine
end

