-- ==== Sys2Proof/Tests/Slice0.lean ====
section
/-! SUPPORT. Small checks of the model against the spec's worked cases, and a witness for each statement that has hypotheses. -/

namespace Sys2Proof.Tests

open Sys2Proof Sys2Proof.Machine

set_option maxRecDepth 20000

/-! ### Ill-formed commands, one for each check -/

/-- R21: the traction port has no raiser to release. -/
theorem test_release_of_traction_is_ill_formed : (Instr.releaseEmergency .traction).wellFormed = false := by decide
/-- R159: a frame is received with at most 120 payload bytes. -/
theorem test_long_payload_is_ill_formed :
    (Instr.unknownKind .cab 0x50 (List.replicate 121 0)).wellFormed = false := by decide
/-- R161: an accepted request of the right length is that request, and no unknown kind. -/
theorem test_known_frame_is_ill_formed : (Instr.unknownKind .service 0x40 []).wellFormed = false := by decide
/-- R160: characters that complete a frame are not those of a discarded one. -/
theorem test_whole_frame_is_not_discarded :
    (Instr.frameDiscarded .service ((wireBytes 0x40 []).map fun b => ⟨b, false⟩)).wellFormed = false := by decide
/-- R160: and no gap abandons them. -/
theorem test_whole_frame_is_not_abandoned :
    (Instr.intercharacterGapTimeout .service ((wireBytes 0x40 []).map fun b => ⟨b, false⟩)).wellFormed = false := by
  decide
/-- R76: the reported reference speed is at most 1600. -/
theorem test_fast_reference_is_ill_formed :
    (Instr.slideWindow ⟨.ofFn fun _ => ⟨.healthy, 0, 0, 8⟩, 1601⟩).wellFormed = false := by decide
/-- R76: an axle speed is at most 1600. -/
theorem test_fast_axle_is_ill_formed : (AxleResult.mk .healthy 1601 0 8).wellFormed = false := by decide
/-- R76: a speed history holds at most eight speeds. -/
theorem test_long_history_is_ill_formed : (AxleResult.mk .healthy 0 0 9).wellFormed = false := by decide
/-- R80: a deceleration is at least −20000. -/
theorem test_low_deceleration_is_ill_formed : (AxleResult.mk .healthy 0 (-20001) 8).wellFormed = false := by decide
/-- R80: a deceleration is at most 20000. -/
theorem test_high_deceleration_is_ill_formed : (AxleResult.mk .healthy 0 20001 8).wellFormed = false := by decide
/-- R81: a FAULTED axle has speed 0, deceleration 0 and an empty history. -/
theorem test_faulted_axle_is_ill_formed :
    (AxleResult.mk .faulted 1 0 0).wellFormed = false ∧ (AxleResult.mk .faulted 0 1 0).wellFormed = false
      ∧ (AxleResult.mk .faulted 0 0 1).wellFormed = false := by decide
/-- R124: the deficit of a trigger is at most 6000. -/
theorem test_large_deficit_is_ill_formed : (Instr.triggerArrival (.effortDeficit 6001)).wellFormed = false := by decide
/-- A command at the edge of each range is well formed. -/
theorem test_edges_are_well_formed :
    (Instr.triggerArrival (.effortDeficit 6000)).wellFormed = true
      ∧ (Instr.slideWindow ⟨.ofFn fun _ => ⟨.healthy, 1600, -20000, 8⟩, 1600⟩).wellFormed = true
      ∧ (Instr.unknownKind .cab 0x50 (List.replicate 120 0)).wellFormed = true := by decide

/-! ### The spec's worked cases -/

/-- R143: the CRC of "123456789" is 29B1. -/
theorem test_crc_of_digits : crc16 [0x31, 0x32, 0x33, 0x34, 0x35, 0x36, 0x37, 0x38, 0x39] = 0x29B1 := by decide
/-- R143, worked case: the CRC of one byte 00 is E1F0. -/
theorem test_crc_of_zero : crc16 [0x00] = 0xE1F0 := by decide
/-- R93: the rows of its worked table. -/
theorem test_creep_rows :
    creepOf 603 540 = 104 ∧ creepOf 603 603 = 0 ∧ creepOf 603 612 = 0 ∧ creepOf 603 0 = 1000 ∧ creepOf 0 4 = 0
      ∧ creepOf 150 120 = 200 := by decide
/-- R93's formula with a shortfall of 1 at 1600, and at 1000 (log 38). -/
theorem test_creep_below_one : creepOf 1600 1599 = 0 ∧ creepOf 1000 999 = 1 := by decide
/-- R80: a fall from 560 to 540 gives 250, and a rise from 540 to 551 gives −137. -/
theorem test_deceleration_rows :
    decelOf [560, 0, 0, 0, 0, 0, 0, 0] 540 = 250 ∧ decelOf [540, 0, 0, 0, 0, 0, 0, 0] 551 = -137 := by decide
/-- R101: ach 500 with a truck force of 47 gives an axle force of 515 and a limit of 309. -/
theorem test_cut_limit : cutLimit .defaults (500 + 47 / 3) = 309 := by decide
/-- R103: a limit of 309 is back at 1000 after 139 windows of 5. -/
theorem test_restore_steps : 309 + 138 * ConfigSet.defaults.restoreStep < 1000
    ∧ 1000 ≤ 309 + 139 * ConfigSet.defaults.restoreStep := by decide
/-- R38: caps 100, 200 and four of 1000 under a target of 1303: the rest goes to the lowest numbers. -/
theorem test_water_fill : waterFill 1303 ⟨100, 200, 1000, 1000, 1000, 1000⟩ = ⟨100, 200, 251, 251, 251, 250⟩ := by
  decide
/-- R42: truck A takes the odd unit, and takes up what truck B could not carry. -/
theorem test_split : splitAir 101 200 200 = (51, 50) ∧ splitAir 101 200 30 = (71, 30) := by decide
/-- R86: an accumulator of 300000 and a fine reference of 60246 leave 246 and add one metre. -/
theorem test_distance : (300000 + 60246) % unitsPerMetre = 246 ∧ (300000 + 60246) / unitsPerMetre = 1 := by decide
/-- R153: the ends of the healthy range, and of the value. -/
theorem test_conversions :
    convert 3599 = ⟨0, false⟩ ∧ convert 3600 = ⟨0, true⟩ ∧ convert 4000 = ⟨0, true⟩ ∧ convert 12000 = ⟨500, true⟩
      ∧ convert 20000 = ⟨1000, true⟩ ∧ convert 21000 = ⟨1000, true⟩ ∧ convert 21001 = ⟨0, false⟩ := by decide
/-- R120: halves go away from zero, and the ends of the ranges saturate. -/
theorem test_quantization :
    quantize 2 1 = (1, false) ∧ quantize 2 510 = (255, false) ∧ quantize 2 511 = (255, true)
      ∧ quantizeDecel 2 = (1, false) ∧ quantizeDecel (-2) = (-1, false) ∧ quantizeDecel 509 = (127, false)
      ∧ quantizeDecel 510 = (127, true) ∧ quantizeDecel (-513) = (-128, false)
      ∧ quantizeDecel (-514) = (-128, true) := by decide

/-! ### Frames written out from the layouts of section 8.9 and the kinds of section 8.10 -/

/-- CAB DEMAND: dynamic 0102, independent 0304, automatic 0506, byte 6 with control active, bail-off and FORWARD. -/
theorem test_frame_cab_demand :
    decodeFrame (.replicate 6 0) .cab 0x10 [1, 2, 3, 4, 5, 6, 0xA1] = some (.cabDemand 0x0102 0x0304 0x0506 0xA1) := by
  decide
/-- CAPABILITY REPORT: byte 2 is the achieved effort of axle 1, byte 24 the cut-out flags, bytes 25 and 26 the hold effort. -/
theorem test_frame_capability :
    decodeFrame (.replicate 6 0) .traction 0x01
        ([0, 1, 0, 2, 0, 3, 0, 4, 0, 5, 0, 6, 0, 7, 0, 8, 0, 9, 0, 10, 0, 11, 0, 12] ++ [0x20, 0x12, 0x34])
      = some (.capabilityReport ⟨⟨1, 2⟩, ⟨3, 4⟩, ⟨5, 6⟩, ⟨7, 8⟩, ⟨9, 10⟩, ⟨11, 12⟩⟩ 0x20 0x1234) := by decide
/-- INTERVENE on the supervision port, and the same kind on the cab port, which does not accept it. -/
theorem test_frame_intervene :
    decodeFrame (.replicate 6 0) .supervision 0x30 [0x17, 0x70] = some (.intervene 6000)
      ∧ decodeFrame (.replicate 6 0) .cab 0x30 [0x17, 0x70] = none := by decide
/-- WRITE CONFIG: a code and a value of four bytes, most significant first. -/
theorem test_frame_write_config :
    decodeFrame (.replicate 6 0) .service 0x42 [7, 0, 0, 1, 2] = some (.writeConfig 7 258) := by decide
/-- READ INCIDENT: slot, expected sequence number and part. -/
theorem test_frame_read_incident :
    decodeFrame (.replicate 6 0) .service 0x48 [3, 0, 0, 0, 9, 1] = some (.readIncident 3 9 1) := by decide
/-- A reply's kind, and the first bytes of a STATUS reply on the line. -/
theorem test_reply_on_the_line :
    (replyFrame 0x40 .busy []).wire.take 5 = [0xA5, 0x80, 2, 0x40, 1] := by decide

/-! ### Small states -/

/-- The part after reset, standing still: S7 governs alone. -/
def still : State :=
  { State.reset with
    monitor := { State.reset.monitor with standstill := true }
    arbiter := { State.reset.arbiter with standstill := true } }

/-- The same with another demand table. -/
def stillWith (a : Arbiter) : State := { still with arbiter := a }

/-- S8 governs by the cab's and the supervision port's raisers, S7 is HELD, and S5 PENDING. -/
def raisedTable : Arbiter :=
  Arbiter.settle .defaults 0
    { still.arbiter with penaltyRaised := true, emergencyRaisers := ⟨true, true, false, false⟩ }

/-- The part standing still with S8, S7 and S5 non-idle, at the moment at which the emergency hold has passed. -/
def raised : State := { stillWith raisedTable with time := ConfigSet.defaults.emergencyHoldMs }

/-- The same part one millisecond before. -/
def raisedEarly : State := { raised with time := ConfigSet.defaults.emergencyHoldMs - 1 }

/-- The same part on the move. -/
def raisedMoving : State := { raised with arbiter := { raisedTable with standstill := false } }

/-- Replies wait at every port. -/
def withReplies (n : Nat) (s : State) : State :=
  let port : Port := ⟨.hunt, some ⟨0, []⟩, List.replicate n ⟨0, []⟩⟩
  { s with ports := { s.ports with port := ⟨port, port, port, port⟩ } }

/-- An operation is in flight, and its reply is owed. -/
def flying (op : NvOp) (s : State) : State :=
  { s with
    nv := ⟨some op, none, none⟩
    ports := { s.ports with outstanding := some kindLockIncident } }

/-- The directory entry of one slot. -/
def withEntry (i : Fin 12) (e : DirEntry) (s : State) : State := { s with recorder := s.recorder.withEntry i e }

/-- One buffer in a state, with a sequence number and `n` of `n + 1` post samples taken where it captures. -/
def withBuffer (i : Fin 2) (st : BufferState) (sequence : Nat) (s : State) : State :=
  { s with recorder := s.recorder.withBuffer i { Buffer.free with state := st, sequence := sequence, window := 2 } }

theorem still_ready : ∀ p, still.ready p := by
  intro p; cases p <;> exact ⟨by decide, by decide, by decide⟩

theorem reset_ready : ∀ p, State.reset.ready p := by
  intro p; cases p <;> exact ⟨by decide, by decide, by decide⟩

theorem raised_ready : ∀ p, raised.ready p := by
  intro p; cases p <;> exact ⟨by decide, by decide, by decide⟩

theorem raisedEarly_ready : ∀ p, raisedEarly.ready p := by
  intro p; cases p <;> exact ⟨by decide, by decide, by decide⟩

theorem raisedMoving_ready : ∀ p, raisedMoving.ready p := by
  intro p; cases p <;> exact ⟨by decide, by decide, by decide⟩

theorem still_arbiter : ArbiterInv still :=
  ⟨⟨by intro g; cases g <;> decide, by intro g; cases g <;> decide, by decide, by decide,
    by intro g; cases g <;> decide⟩, by intro g; cases g <;> decide, by decide⟩

theorem reset_arbiter : ArbiterInv State.reset :=
  ⟨⟨by intro g; cases g <;> decide, by intro g; cases g <;> decide, by decide, by decide,
    by intro g; cases g <;> decide⟩, by intro g; cases g <;> decide, by decide⟩

theorem raised_arbiter : ArbiterInv raised :=
  ⟨⟨by intro g; cases g <;> decide, by intro g; cases g <;> decide, by decide, by decide,
    by intro g; cases g <;> decide⟩, by intro g; cases g <;> decide, by decide⟩

theorem raisedMoving_arbiter : ArbiterInv raisedMoving :=
  ⟨⟨by intro g; cases g <;> decide, by intro g; cases g <;> decide, by decide, by decide,
    by intro g; cases g <;> decide⟩, by intro g; cases g <;> decide, by decide⟩

/-- The laws of the demand table rest on the arbiter alone. -/
theorem arbiter_of {s t : State} (i : ArbiterInv s) (h : s.arbiter = t.arbiter) : ArbiterInv t :=
  ⟨h ▸ i.lawful, h ▸ i.conditioned, h ▸ i.record⟩

/-! ### What meets the hypotheses of each statement, clause by clause -/

theorem test_front_command_applies : ({ still with pending := [.alive, .emergency] } : State).pending = .alive :: [.emergency] :=
  rfl

theorem test_empty_queue_applies :
    still.pending = [] ∧ still.deliveries = [] ∧ still.powered = true
      ∧ ({ still with deliveries := [.emergencyNotice] } : State).deliveries = .emergencyNotice :: [] := by decide

theorem test_no_power_applies :
    ({ still with powered := false } : State).powered = false ∧ Instr.emergencyLineAsserted ≠ .powerOnReset := by decide

theorem test_round_trip_applies :
    (Instr.readChannel 16 still.matrix.loops).wellFormed = true
      ∧ encodeFrame (.readChannel 16 still.matrix.loops) = some (.service, 0x44, [16])
      ∧ (Instr.releaseEmergency .supervision).wellFormed = true
      ∧ encodeFrame (.releaseEmergency .supervision) = some (.supervision, kindReleaseEmergency, []) := by decide

/-- Each row at its boundary: kinds 15 and 16, three and four waiting replies, 120 and 121 payload bytes. -/
theorem test_received_frame_applies :
    120 < (List.replicate 121 (0 : Byte)).length ∧ framed .cab 0x0F 120 = false ∧ (0x0F : Byte).toNat < 16
      ∧ 16 ≤ (0x10 : Byte).toNat ∧ framed .traction 0x10 7 = false ∧ framed .cab 0x10 6 = false
      ∧ (withReplies 3 still).ports.waiting .cab < 4 ∧ 4 ≤ (withReplies 4 still).ports.waiting .cab
      ∧ decodeFrame still.matrix.loops .cab 0x10 [0, 0, 0, 0, 0, 0, 0x80] = some (.cabDemand 0 0 0 0x80) := by decide

theorem test_request_not_taken_applies :
    Instr.identify.wellFormed = true ∧ encodeFrame .identify = some (.service, 0x40, [])
      ∧ 16 ≤ (0x40 : Byte).toNat ∧ 4 ≤ (withReplies 4 still).ports.waiting .service
      ∧ (withReplies 2 (flying (.service (.unlock 0) false) still)).ports.waiting .service < 4
      ∧ (flying (.service (.unlock 0) false) still).ports.outstanding.isSome = true := by decide

theorem test_alive_applies : still.powered = true := by decide

theorem test_cab_demand_applies : still.ready .cab ∧ ArbiterInv still := ⟨still_ready .cab, still_arbiter⟩

/-- Not raised; too early by one millisecond, and on the move; and just in time. -/
theorem test_release_emergency_applies :
    (∀ p, still.ready p ∧ raised.ready p ∧ raisedEarly.ready p ∧ raisedMoving.ready p)
      ∧ ArbiterInv still ∧ ArbiterInv raised ∧ ArbiterInv raisedEarly ∧ ArbiterInv raisedMoving
      ∧ still.arbiter.emergencyRaisers.has .cab = false ∧ raised.arbiter.emergencyRaisers.has .cab = true
      ∧ raised.arbiter.emergencyRaisers.has .supervision = true
      ∧ raised.arbiter.standstill = true ∧ raisedMoving.arbiter.standstill = false
      ∧ raised.arbiter.entries.s8.stamp + raised.store.live.emergencyHoldMs = raised.time
      ∧ raisedEarly.time < raisedEarly.arbiter.entries.s8.stamp + raisedEarly.store.live.emergencyHoldMs :=
  ⟨fun p => ⟨still_ready p, raised_ready p, raisedEarly_ready p, raisedMoving_ready p⟩, still_arbiter, raised_arbiter,
    arbiter_of raised_arbiter rfl, raisedMoving_arbiter, by decide, by decide, by decide, by decide, by decide, by decide,
    by decide⟩

theorem test_ledger_query_applies : still.ready .traction ∧ still.ready .service :=
  ⟨still_ready .traction, still_ready .service⟩

theorem test_capability_report_applies : still.powered = true ∧ ArbiterInv still := ⟨rfl, still_arbiter⟩

theorem test_electric_withdrawn_applies : still.ready .traction := still_ready .traction

theorem test_intervene_and_penalty_apply :
    (still.ready .supervision ∧ ArbiterInv still ∧ still.arbiter.nonIdle .s5 = false)
      ∧ raised.ready .supervision ∧ ArbiterInv raised ∧ raised.arbiter.nonIdle .s5 = true :=
  ⟨⟨still_ready _, still_arbiter, by decide⟩, raised_ready _, raised_arbiter, by decide⟩

theorem test_release_penalty_applies :
    (still.ready .supervision ∧ ArbiterInv still ∧ still.arbiter.nonIdle .s5 = false)
      ∧ (raised.ready .supervision ∧ ArbiterInv raised ∧ raised.arbiter.nonIdle .s5 = true
        ∧ raised.arbiter.standstill = true)
      ∧ raisedMoving.ready .supervision ∧ ArbiterInv raisedMoving ∧ raisedMoving.arbiter.nonIdle .s5 = true
        ∧ raisedMoving.arbiter.standstill = false :=
  ⟨⟨still_ready _, still_arbiter, by decide⟩, ⟨raised_ready _, raised_arbiter, by decide, by decide⟩,
    raisedMoving_ready _, raisedMoving_arbiter, by decide, by decide⟩

theorem test_emergency_and_freeze_apply : still.ready .supervision ∧ ArbiterInv still :=
  ⟨still_ready .supervision, still_arbiter⟩

/-- A code of the table, and the codes on both sides of it. -/
theorem test_identity_and_parameters_apply :
    still.ready .service ∧ (paramTable.all fun row => row.code ≠ 9 && row.code ≠ 255) = true
      ∧ ∃ row, row ∈ paramTable ∧ row.code = (0x08 : Byte).toNat :=
  ⟨still_ready .service, by decide, by decide⟩

/-- Below and above a range, at both its ends, on the move, and against a cross constraint. -/
theorem test_configuration_writes_apply :
    still.ready .service ∧ State.reset.ready .service
      ∧ still.monitor.standstill = true ∧ State.reset.monitor.standstill = false
      ∧ judgeWrite still.store.live true 0 899 = .error .range ∧ judgeWrite still.store.live true 0 1301 = .error .range
      ∧ judgeWrite still.store.live false 0 1300 = .error .notStandstill
      ∧ judgeWrite still.store.live true 0 900 = .ok (.wheelDiameter .a1, 900)
      ∧ (∃ row, row ∈ paramTable ∧ row.lo ≤ row.hi ∧ (still.store.live.put row.param row.hi).crossOk = false)
      ∧ still.restart = none ∧ still.nv = .empty ∧ oldestAwaiting still.recorder.buffers = none
      ∧ (flying (.sealing 0 0 false false) still).nv.inFlight.isSome = true :=
  ⟨still_ready .service, reset_ready .service, by decide, by decide, rfl, rfl, rfl, rfl, by decide, by decide, by decide,
    by decide, by decide⟩

/-- Each kind of channel at both its ends, and 22, which is no channel; both ends of the healthy range. -/
theorem test_read_channel_applies :
    still.ready .service ∧ 22 ≤ (22 : Byte).toNat
      ∧ (0 : Byte).toNat = (0 : Fin 8).val ∧ (7 : Byte).toNat = (7 : Fin 8).val
      ∧ (8 : Byte).toNat = (0 : Fin 8).val + 8 ∧ (15 : Byte).toNat = (7 : Fin 8).val + 8
      ∧ (16 : Byte).toNat = (0 : Fin 6).val + 16 ∧ (21 : Byte).toNat = (5 : Fin 6).val + 16 :=
  ⟨still_ready .service, by decide, by decide, by decide, by decide, by decide, by decide, by decide⟩

/-- The rows of R155 and R156: channel 7 is GENERAL_OUT, channel 0 APPLY_A, channel 19 GENERAL_IN. -/
theorem test_channel_requests_apply :
    still.ready .service ∧ State.reset.ready .service
      ∧ judgeAssign still.matrix.table true 22 0 = .atOnce .range ∧ judgeAssign still.matrix.table true 0 19 = .atOnce .range
      ∧ judgeAssign still.matrix.table false 21 18 = .atOnce .notStandstill
      ∧ judgeAssign still.matrix.table true 21 8 = .atOnce .kindMismatch
      ∧ judgeAssign still.matrix.table true 0 0 = .atOnce .required
      ∧ judgeAssign still.matrix.table true 0 1 = .atOnce .ok
      ∧ judgeAssign still.matrix.table true 7 1 = .store 7 .applyA
      ∧ judgeDrive still.matrix.table 22 0 = (.range, none) ∧ judgeDrive still.matrix.table 7 2 = (.range, none)
      ∧ judgeDrive still.matrix.table 8 0 = (.kindMismatch, none) ∧ judgeDrive still.matrix.table 0 1 = (.owned, none)
      ∧ judgeDrive (defaultTable.set 7 .unused) 7 1 = (.kindMismatch, none)
      ∧ judgeDrive still.matrix.table 7 1 = (.ok, some 7) :=
  ⟨still_ready .service, reset_ready .service, by decide, by decide, by decide, by decide, by decide, by decide,
    by decide, by decide, by decide, by decide, by decide, by decide, by decide⟩

/-- A slot erased after its part 0 had shown the number 7. -/
def shownAndErased : State :=
  withEntry 0 ⟨.empty, false, 7, 1⟩ { still with recorder := { still.recorder with shown := still.recorder.shown.set 0 7 } }

/-- An EMPTY, a SEALING, and a SEALED slot, with its own and another expected number, parts 0 and 1. -/
theorem test_incidents_listed_and_read_apply :
    still.ready .service ∧ 12 ≤ (12 : Byte).toNat ∧ (11 : Byte).toNat = (11 : Fin 12).val
      ∧ (still.recorder.directory[(11 : Fin 12)]).state = .empty
      ∧ ((withEntry 0 ⟨.sealing, false, 7, 1⟩ still).recorder.directory[(0 : Fin 12)]).state = .sealing
      ∧ (∀ e : DirEntry, e = ⟨.sealed, true, 7, 1⟩ →
          e.state ≠ .sealing ∧ (7 : Word32).toNat = e.sequence ∧ (8 : Word32).toNat ≠ e.sequence ∧ (8 : Word32).toNat ≠ 0)
      ∧ (0 : Byte).toNat = 0 ∧ (1 : Byte).toNat ≠ 0 ∧ (still.array.slots[(11 : Fin 12)]).header.length = 58
      ∧ ((shownAndErased).recorder.directory[(0 : Fin 12)]).state = .empty
      ∧ (shownAndErased).recorder.shown[(0 : Fin 12)] = ((shownAndErased).recorder.directory[(0 : Fin 12)]).sequence
      ∧ (7 : Word32).toNat = ((shownAndErased).recorder.directory[(0 : Fin 12)]).sequence
      ∧ still.recorder.shown[(0 : Fin 12)] ≠ ((shownAndErased).recorder.directory[(0 : Fin 12)]).sequence :=
  ⟨still_ready .service, by decide, by decide, by decide, by decide, by rintro e rfl; decide, by decide, by decide,
    by decide, by decide, by decide, by decide, by decide⟩

/-- R137, last sentence: part 0 of a SEALED slot remembers its number; once the slot is EMPTY, a later part that names the number is CHANGED, and one that names none is OK; part 0 of the EMPTY slot forgets it. -/
theorem test_read_of_an_erased_slot :
    (Recorder.afterRead 0 0 .ok (withEntry 0 ⟨.sealed, false, 7, 1⟩ still).recorder).shown[(0 : Fin 12)] = 7
      ∧ readIncident shownAndErased.recorder still.array.slots 0 7 1 = (.changed, [])
      ∧ readIncident shownAndErased.recorder still.array.slots 0 0 1 = (.ok, [0, 1])
      ∧ (readIncident shownAndErased.recorder still.array.slots 0 7 0).1 = .ok
      ∧ (shownAndErased.recorder.afterRead 0 0 .ok).shown[(0 : Fin 12)] = 0 := by decide

/-- Seven and eight locked slots. -/
def locked (n : Nat) : State :=
  { still with
    recorder := { still.recorder with
      directory := Vector.ofFn fun i => ⟨.sealed, decide (i.val < n), i.val + 1, 1⟩ } }

theorem test_slot_requests_apply :
    still.ready .service ∧ (locked 7).ready .service ∧ (locked 8).ready .service
      ∧ (still.recorder.directory[(0 : Fin 12)]).state ≠ .sealed
      ∧ ((locked 7).recorder.directory[(6 : Fin 12)]).lock = true
      ∧ ((locked 7).recorder.directory[(7 : Fin 12)]).lock = false ∧ lockedCount (locked 7).recorder.directory < 8
      ∧ ((locked 8).recorder.directory[(8 : Fin 12)]).lock = false ∧ 8 ≤ lockedCount (locked 8).recorder.directory
      ∧ ((locked 8).recorder.directory[(11 : Fin 12)]).state = .sealed
      ∧ ((withEntry 0 ⟨.damaged, false, 7, 1⟩ still).recorder.directory[(0 : Fin 12)]).state = .damaged
      ∧ ((withEntry 0 ⟨.sealing, false, 7, 1⟩ still).recorder.directory[(0 : Fin 12)]).state = .sealing
      ∧ (locked 8).monitor.standstill = true ∧ State.reset.monitor.standstill = false :=
  ⟨still_ready .service, ⟨by decide, by decide, by decide⟩, ⟨by decide, by decide, by decide⟩, by decide, by decide,
    by decide, by decide, by decide, by decide, by decide, by decide, by decide, by decide, by decide⟩

/-- Every row of SET MATCH at a boundary of its ranges. -/
theorem test_set_match_applies :
    still.ready .service ∧ judgeMatch 4 0 0 1 0 = none ∧ judgeMatch 3 2 0 1 0 = none ∧ judgeMatch 3 1 6 1 0 = none
      ∧ judgeMatch 3 1 2 0 0 = none ∧ judgeMatch 3 1 2 7 0 = none ∧ judgeMatch 3 1 1 1 1601 = none
      ∧ judgeMatch 3 1 3 1 1001 = none ∧ judgeMatch 3 1 4 1 6001 = none ∧ judgeMatch 3 1 5 1 8 = none
      ∧ judgeMatch 3 1 2 6 1000 = some (3, ⟨true, .creepAbove, 6, 1000, .armed⟩)
      ∧ judgeMatch 0 0 5 0 7 = some (0, ⟨false, .authorityAtLeast, 0, 7, .disarmed⟩) :=
  ⟨still_ready .service, by decide, by decide, by decide, by decide, by decide, by decide, by decide, by decide,
    by decide, by decide, by decide⟩

theorem test_restart_request_applies :
    (State.reset.ready .service ∧ State.reset.monitor.standstill = false)
      ∧ still.ready .service ∧ still.monitor.standstill = true :=
  ⟨⟨reset_ready .service, by decide⟩, still_ready .service, by decide⟩

/-- Nothing waits behind an operation in flight. -/
theorem nothing_waits (op : NvOp) : (flying op still).nothingWaits := ⟨rfl, rfl, rfl, rfl⟩

theorem flying_arbiter (op : NvOp) : ArbiterInv (flying op still) := arbiter_of still_arbiter rfl

/-- A store with a write and one without, with a restart that waits for it. -/
theorem test_configuration_store_applies :
    ∃ s : State, s = flying (.service (.configStore none) false) still
      ∧ s.powered = true ∧ s.nv.inFlight = some (.service (.configStore none) false) ∧ s.nothingWaits ∧ ArbiterInv s
      ∧ s.restart = none ∧ s.ports.outstanding = some kindLockIncident
      ∧ ({ s with restart := some .restartLine } : State).restart = some .restartLine ∧ s.ports.restartOwed = false
      ∧ s.ports.outstanding ≠ some kindRestart :=
  ⟨_, rfl, rfl, rfl, nothing_waits _, flying_arbiter _, rfl, rfl, rfl, by decide, by decide⟩

/-- A written hold, a written timeout of each link, and a parameter that no timer runs on. -/
theorem test_written_timers_apply :
    (∃ hold, some (Param.emergencyHoldMs, 5000) = some (Param.emergencyHoldMs, hold))
      ∧ (∀ m, ∃ timeout, some (timeoutParam m, 300) = some (timeoutParam m, timeout))
      ∧ (∀ hold, some (Param.eRise, 20) ≠ some (Param.emergencyHoldMs, hold))
      ∧ (∀ m timeout, some (Param.eRise, 20) ≠ some (timeoutParam m, timeout))
      ∧ (flying (.service (.configStore (some (timeoutParam .cab, 300))) false) still).nothingWaits :=
  ⟨⟨_, rfl⟩, fun _ => ⟨_, rfl⟩, by simp, by intro m t; cases m <;> simp [timeoutParam], nothing_waits _⟩

theorem test_assignment_store_applies :
    (flying (.service (.assignStore 7 .applyA) false) still).powered = true
      ∧ (flying (.service (.assignStore 7 .applyA) false) still).nv.inFlight
        = some (.service (.assignStore 7 .applyA) false)
      ∧ (flying (.service (.assignStore 7 .applyA) false) still).ports.outstanding = some kindLockIncident
      ∧ still.ports.outstanding = none
      ∧ (flying (.service (.assignStore 7 .applyA) false) still).nothingWaits :=
  ⟨rfl, rfl, rfl, rfl, nothing_waits _⟩

theorem test_lock_writes_apply :
    (flying (.service (.lock 11 3) false) still).nv.inFlight = some (.service (.lock 11 3) false)
      ∧ (flying (.service (.unlock 0) false) still).nv.inFlight = some (.service (.unlock 0) false)
      ∧ (flying (.service (.unlock 0) false) still).powered = true
      ∧ (flying (.service (.unlock 0) false) still).nothingWaits := ⟨rfl, rfl, rfl, nothing_waits _⟩

theorem test_erase_applies :
    (still.array.slots[(11 : Fin 12)]).header.length = 58
      ∧ (flying (.service (.erase 11 3) false) still).nv.inFlight = some (.service (.erase 11 3) false)
      ∧ (flying (.service (.erase 11 3) true) still).nv.inFlight = some (.service (.erase 11 3) true)
      ∧ (flying (.service (.erase 11 3) false) still).nothingWaits
      ∧ (flying (.service (.erase 11 3) true) still).nothingWaits :=
  ⟨by decide, rfl, rfl, nothing_waits _, nothing_waits _⟩

theorem test_seal_applies :
    (flying (.sealing 1 11 true false) still).powered = true
      ∧ (flying (.sealing 1 11 true false) still).nv.inFlight = some (.sealing 1 11 true false)
      ∧ (flying (.sealing 1 11 true false) still).nothingWaits := ⟨rfl, rfl, nothing_waits _⟩

/-- A SEAL of buffer 0 waits for the array. -/
def sealWaits : State :=
  { withBuffer 0 .awaitingSeal 4 still with nv := ⟨none, some 0, none⟩ }

theorem sealWaits_store : IncidentInv sealWaits where
  directory := ⟨by decide, by decide, by decide, by decide⟩
  sealing := by decide
  sealFlies := by intro b i a w h; cases (show none = some _ from h)
  sealWaits := by decide
  locking := by intro i n h e; cases (show none = some _ from e)
  lockWaits := by intro i n e; cases (show none = some _ from e)
  erasing := by intro i n e; cases (show none = some _ from e)
  array := by decide
  stored := by decide

/-- No slot is EMPTY and two are DAMAGED: the lower-numbered one is chosen (R131). -/
theorem test_damaged_slot_is_chosen :
    ∃ d : Vector DirEntry 12, d = Vector.ofFn (fun i => ⟨if i = 4 ∨ i = 9 then .damaged else .sealed, false, 40 - i.val, 1⟩)
      ∧ chooseSlot d = some 4 ∧ (d[(4 : Fin 12)]).state = .damaged ∧ (d[(9 : Fin 12)]).state = .damaged :=
  ⟨_, rfl, by decide, by decide, by decide⟩

theorem test_seal_is_granted_applies :
    IncidentInv sealWaits ∧ sealWaits.restart = none ∧ sealWaits.nv.inFlight = none
      ∧ sealWaits.nv.recorderWait = some 0 := ⟨sealWaits_store, rfl, rfl, rfl⟩

/-- A framing error, lengths 120 and 121, a CRC that differs, and characters that complete no frame. -/
theorem test_characters_apply :
    still.powered = true ∧ (still.ports.port.get .cab).assembly = .hunt
      ∧ ((still.ports.port.get .cab).assembly.run [⟨0xA5, true⟩, ⟨0x10, false⟩]).2 = []
      ∧ ¬ 120 < (120 : Byte).toNat ∧ 120 < (121 : Byte).toNat ∧ crc16 [0x40, 0x00] ≠ (0 : Byte) ++ (0 : Byte)
      ∧ ((Assembly.hunt.run ((wireBytes 0x40 []).dropLast.map fun b => ⟨b, false⟩)).1.feed
          ⟨(wireBytes 0x40 []).getLast?.getD 0, false⟩) = (.hunt, some ⟨0x40, []⟩) := by decide

theorem test_transmission_applies :
    still.powered = true ∧ (still.ports.port.get .traction).sending = none ∧ still.restart = none
      ∧ ((withReplies 1 still).ports.port.get .traction).sending = some ⟨0, []⟩
      ∧ (∃ s : State, s = { still with
            restart := some .serviceRestart
            ports := still.ports.withPort .service ⟨.hunt, some restartReply, []⟩ }
          ∧ s.restart = some .serviceRestart ∧ s.nv.inFlight = none
          ∧ s.ports.port.service.sending = some restartReply ∧ restartReply ∉ s.ports.port.service.replies) :=
  ⟨rfl, rfl, rfl, rfl, _, rfl, rfl, rfl, rfl, by decide⟩

/-- A link that expires now, and one with a millisecond to go. -/
def freshSince (t : Nat) (m : Master) : State :=
  { still with
    time := timeoutOf ConfigSet.defaults m
    ports := { still.ports with link := still.ports.link.set m ⟨.fresh, t⟩ } }

theorem test_freshness_applies : ∀ m,
    (freshSince 0 m).powered = true ∧ ArbiterInv (freshSince 0 m)
      ∧ (still.ports.link.get m).state ≠ .fresh
      ∧ ((freshSince 0 m).ports.link.get m).state = .fresh
      ∧ ((freshSince 0 m).ports.link.get m).refreshed + timeoutOf (freshSince 0 m).store.live m = (freshSince 0 m).time
      ∧ (freshSince 1 m).time < ((freshSince 1 m).ports.link.get m).refreshed + timeoutOf (freshSince 1 m).store.live m := by
  intro m
  cases m <;> exact ⟨rfl, arbiter_of still_arbiter rfl, by decide, rfl, by decide, by decide⟩

theorem test_raisers_apply :
    (raised.powered = true ∧ ArbiterInv raised ∧ raised.arbiter.standstill = true ∧ raised.arbiter.nonIdle .s8 = true
        ∧ raised.arbiter.entries.s8.stamp + raised.store.live.emergencyHoldMs = raised.time)
      ∧ raisedEarly.powered = true ∧ ArbiterInv raisedEarly :=
  ⟨⟨rfl, raised_arbiter, by decide, by decide, by decide⟩, rfl, arbiter_of raised_arbiter rfl⟩

theorem test_raisers_added_applies : still.powered = true ∧ ArbiterInv still := ⟨rfl, still_arbiter⟩

theorem test_transducer_health_applies :
    still.powered = true ∧ ArbiterInv still ∧ still.arbiter.nonIdle .s7 = true := ⟨rfl, still_arbiter, by decide⟩

/-- A command at its limit, and one above it; S8 IDLE and non-idle. -/
theorem test_clip_applies :
    (still.powered = true ∧ ArbiterInv still ∧ still.ledger.cmd.get .a6 ≤ (still.slide.axles.get .a6).lim)
      ∧ ∃ s : State, s = { raised with ledger := { raised.ledger with cmd := ⟨1001, 0, 0, 0, 0, 0⟩ } }
        ∧ s.powered = true ∧ ArbiterInv s ∧ (s.slide.axles.get .a1).lim < s.ledger.cmd.get .a1
        ∧ s.arbiter.nonIdle .s8 = true :=
  ⟨⟨rfl, still_arbiter, by decide⟩, _, rfl, rfl, arbiter_of raised_arbiter rfl, by decide, by decide⟩

/-- Both sides of the conditions of a period: a FRESH and an AWAITING traction link, S8 IDLE and non-idle, the deficit at its threshold and above. -/
theorem test_blend_period_applies :
    still.powered = true ∧ still.ports.link.traction.state ≠ .fresh
      ∧ (freshSince 0 .traction).ports.link.traction.state = .fresh ∧ still.ledger.withdrawn = false
      ∧ (∀ i, still.ports.capability.cutOut.get i = false)
      ∧ still.arbiter.record.emergency = false ∧ raised.arbiter.record.emergency = true
      ∧ still.arbiter.record.profile = .service ∧ (still.loops.get .a).mode ≠ .normal
      ∧ still.store.live.deficitThreshold < still.arbiter.record.airFloor :=
  ⟨rfl, by decide, by decide, by decide, by intro i; cases i <;> decide, by decide, by decide, by decide, by decide,
    by decide⟩

/-- A target that the caps just hold, and axles below their caps, one with the unit more. -/
theorem test_water_fill_applies :
    1304 ≤ (⟨100, 200, 251, 251, 251, 251⟩ : PerAxle Nat).sum
      ∧ (waterFill 1303 ⟨100, 200, 1000, 1000, 1000, 1000⟩).get .a6 < 1000
      ∧ (waterFill 1303 ⟨100, 200, 1000, 1000, 1000, 1000⟩).get .a3
        = (waterFill 1303 ⟨100, 200, 1000, 1000, 1000, 1000⟩).get .a6 + 1 := by decide

/-- Equal limits with the requirement one below their sum, a truck without room, and no requirement. -/
theorem test_split_applies :
    ∃ l m n : Ledger, l = { still.ledger with capAir := ⟨51, 51⟩, airReq := 101 } ∧ l.capAir.a = l.capAir.b
      ∧ l.airReq < 2 * l.capAir.a ∧ m = { still.ledger with capAir := ⟨0, 51⟩ } ∧ m.capAir.a = 0
      ∧ n = { still.ledger with capAir := ⟨51, 0⟩, airReq := 0 } ∧ n.capAir.b = 0 ∧ n.airReq = 0 :=
  ⟨_, _, _, rfl, rfl, by decide, rfl, rfl, rfl, rfl, rfl⟩

/-- The transducers at the ends of the healthy range, and just outside it. -/
theorem test_truck_sample_applies :
    still.powered = true
      ∧ (Matrix.conversion { still.matrix with loops := .replicate 6 3600 } (truckFunctions .a).1).healthy = true
      ∧ (Matrix.conversion { still.matrix with loops := .replicate 6 21000 } (truckFunctions .b).1).healthy = true
      ∧ (Matrix.conversion { still.matrix with loops := .replicate 6 3599 } (truckFunctions .a).1).healthy = false
      ∧ (Matrix.conversion { still.matrix with loops := .replicate 6 21001 } (truckFunctions .b).1).healthy = false := by
  decide

theorem test_pipe_sample_applies :
    still.powered = true ∧ still.watch.history.length ≤ 50
      ∧ (Matrix.conversion { still.matrix with loops := .replicate 6 21000 } .pipe).healthy = true
      ∧ (Matrix.conversion { still.matrix with loops := .replicate 6 3599 } .pipe).healthy = false
      ∧ still.watch.present = false ∧ ({ still.watch with present := true } : PipeWatch).present = true
      ∧ still.watch.mode ≠ .failsafe ∧ ({ still.watch with mode := .failsafe } : PipeWatch).mode = .failsafe := by decide

/-- Each axle has its channel, or none; a healthy and a failed one, kept and new. -/
theorem test_axle_window_applies :
    still.powered = true ∧ tachChannel still.matrix.table .a1 = some 0 ∧ tachChannel still.matrix.table .a6 = some 5
      ∧ tachChannel (still.matrix.table.set 8 .unused) .a1 = none
      ∧ ((Vector.replicate 8 ⟨300, true⟩ : Vector PulseInput 8)[(0 : Fin 8)]).healthy = true
      ∧ ((Vector.replicate 8 ⟨0, false⟩ : Vector PulseInput 8)[(5 : Fin 8)]).healthy = false
      ∧ (still.monitor.axles.get .a1).tach = .healthy ∧ (still.monitor.axles.get .a1).channel = some 0
      ∧ (some 1 : Option (Fin 8)) ≠ some 0 := by decide

/-- A reference at `slide_min_speed` and one below it; an axle with seven and with eight speeds; a FAULTED record. -/
theorem test_slide_window_applies :
    still.powered = true ∧ (∀ i, (still.slide.axles.get i).state = .adhering)
      ∧ still.store.live.slideMinSpeed - 1 < still.store.live.slideMinSpeed ∧ (7 : Nat) < 8
      ∧ (AxleResult.mk .faulted 0 0 0).wellFormed = true ∧ (AxleResult.mk .healthy 1600 20000 8).wellFormed = true
      ∧ ({ AxleSlide.afterReset .defaults with state := .faulted } : AxleSlide).state ≠ .adhering
      ∧ still.store.live.sandMinOnMs < still.store.live.sandMinOnMs + 1
      ∧ still.slide.sand.output = .off ∧ ({ still.slide.sand with output := .fwd } : Sand).output ≠ .off :=
  ⟨rfl, by intro i; cases i <;> decide, by decide, by decide, by decide, by decide, by decide, by decide, by decide,
    by decide⟩

/-- Each state of an axle, with a budget and without; a suspect count one below the last; a quiet timer one window from its end, and one millisecond further; a limit one step from 1000, and one further. -/
theorem test_slide_machine_applies :
    ∃ r : AxleSlide, r = AxleSlide.afterReset .defaults ∧ r.state = .adhering ∧ r.creep < ConfigSet.defaults.creepSlide
      ∧ ConfigSet.defaults.suspectWindows ≤ (ConfigSet.defaults.suspectWindows - 1) + 1
      ∧ 0 < r.budget ∧ ({ r with episode := true, budget := 0 } : AxleSlide).budget = 0
      ∧ ({ r with state := .recovering } : AxleSlide).state = .recovering
      ∧ r.episode = false ∧ ({ r with episode := true } : AxleSlide).episode = true
      ∧ r.creep < ConfigSet.defaults.creepWarn ∧ r.decel < (ConfigSet.defaults.decelWarn : Int)
      ∧ ConfigSet.defaults.episodeQuietMs ≤ (ConfigSet.defaults.episodeQuietMs - 10) + 10
      ∧ (ConfigSet.defaults.episodeQuietMs - 11) + 10 < ConfigSet.defaults.episodeQuietMs
      ∧ 1000 ≤ (1000 - ConfigSet.defaults.restoreStep) + ConfigSet.defaults.restoreStep
      ∧ (999 - ConfigSet.defaults.restoreStep) + ConfigSet.defaults.restoreStep < 1000 :=
  ⟨_, rfl, by decide, by decide, by decide, by decide, rfl, rfl, rfl, rfl, by decide, by decide, by decide, by decide,
    by decide, by decide⟩

/-- A release that just fits its limit, and one that does not; a spell that is spent. -/
theorem test_truck_corrections_apply :
    still.powered = true ∧ (ConfigSet.defaults.maxReleaseMs - 10) + 10 ≤ ConfigSet.defaults.maxReleaseMs
      ∧ ConfigSet.defaults.maxReleaseMs < (ConfigSet.defaults.maxReleaseMs - 9) + 10
      ∧ (true && ({ release := 0, correction := .none, exhausted := true } : TruckSlide).exhausted) = true := by decide

/-- An armed slot whose condition holds; a buffer whose window ends at this sample, with an EMPTY slot for it. -/
theorem test_recorder_sample_applies :
    ∃ s : State, s = withBuffer 0 .capturing 1 still ∧ s.powered = true ∧ s.recorder.ring.length ≤ 64
      ∧ (∀ b : Fin 2, s.nv.recorderWait = some b → (s.recorder.buffers[b]).state = .awaitingSeal)
      ∧ s.nothingWaits ∧ s.nv.inFlight = none ∧ (s.recorder.buffers[(0 : Fin 2)]).state = .capturing
      ∧ (∀ c : Fin 2, c ≠ 0 → (s.recorder.buffers[c]).state ≠ .capturing)
      ∧ (s.recorder.buffers[(0 : Fin 2)]).post.length + 1 < (s.recorder.buffers[(0 : Fin 2)]).window
      ∧ chooseSlot s.recorder.directory = some 0
      ∧ MatchSlot.met s ⟨true, .authorityAtLeast, 0, 6, .armed⟩ ∧ ¬ MatchSlot.met s ⟨true, .authorityAtLeast, 0, 7, .fired⟩ :=
  ⟨_, rfl, rfl, by decide, by decide, ⟨rfl, rfl, rfl, by decide⟩, rfl, by decide, by decide, by decide, by decide,
    show 6 ≤ _ by decide, show ¬ 7 ≤ _ by decide⟩

theorem test_recorder_sample_ends_a_capture :
    ∃ s : State, s = { still with
          recorder := still.recorder.withBuffer 1 { Buffer.free with state := .capturing, window := 1 } }
      ∧ s.powered = true ∧ s.recorder.ring.length ≤ 64 ∧ s.nothingWaits ∧ s.nv.inFlight = none
      ∧ (s.recorder.buffers[(1 : Fin 2)]).state = .capturing
      ∧ (∀ c : Fin 2, c ≠ 1 → (s.recorder.buffers[c]).state ≠ .capturing)
      ∧ (s.recorder.buffers[(1 : Fin 2)]).window ≤ (s.recorder.buffers[(1 : Fin 2)]).post.length + 1 :=
  ⟨_, rfl, rfl, by decide, ⟨rfl, rfl, rfl, by decide⟩, rfl, by decide, by decide, by decide⟩

/-- A CAPTURING buffer beside another; two AWAITING_SEAL ones; a FREE one, with the last number but one. -/
theorem test_trigger_applies :
    still.powered = true
      ∧ (((withBuffer 1 .capturing 1 still).recorder.buffers[(1 : Fin 2)]).state = .capturing
        ∧ ∀ c : Fin 2, c ≠ 1 → ((withBuffer 1 .capturing 1 still).recorder.buffers[c]).state ≠ .capturing)
      ∧ (∃ s : State, s = withBuffer 0 .awaitingSeal 1 (withBuffer 1 .awaitingSeal 2 still)
        ∧ (s.recorder.buffers[(1 : Fin 2)]).state = .awaitingSeal
        ∧ ∀ c : Fin 2, c ≠ 1 → (s.recorder.buffers[c]).state = .sealing
          ∨ (s.recorder.buffers[c]).state = .awaitingSeal
            ∧ (s.recorder.buffers[c]).sequence < (s.recorder.buffers[(1 : Fin 2)]).sequence)
      ∧ (∀ c : Fin 2, (still.recorder.buffers[c]).state ≠ .capturing)
      ∧ (still.recorder.buffers[(0 : Fin 2)]).state = .free
      ∧ (∀ c : Fin 2, (still.recorder.buffers[c]).state = .free → (0 : Fin 2).val ≤ c.val)
      ∧ (4294967294 : Nat) < 4294967295 :=
  ⟨rfl, by decide, ⟨_, rfl, by decide, by decide⟩, by decide, by decide, by decide, by decide⟩

/-- An owned output and channel 7, which is not; a driver that is off and one that is on; one that was OK and one that was not. -/
theorem test_driver_health_applies :
    still.powered = true ∧ DriverHealth.openLoad ≠ .ok ∧ still.matrix.health[(0 : Fin 8)] = .ok
      ∧ still.matrix.ownedOutput 0 = true ∧ still.matrix.ownedOutput 7 = false
      ∧ still.matrix.driven 0 = false
      ∧ Matrix.driven { still.matrix with functions := still.matrix.functions.switch .applyA true } 0 = true
      ∧ (still.matrix.health.set 7 .shortLoad)[(7 : Fin 8)] ≠ .ok := by decide

/-- R151: a short of the first driver is found while it is on, and not while it is off. -/
theorem test_short_is_found_while_on :
    ∃ s : State, s = { still with
        matrix := { still.matrix with functions := still.matrix.functions.switch .applyA true } }
      ∧ (∃ t, exec (.driverHealthChange 0 .shortLoad) s = .next t ∧ t.matrix.marks[(0 : Fin 8)] = true
        ∧ t.deliveries = s.deliveries ++ [.triggerArrival (.valveFault 0)])
      ∧ exec (.driverHealthChange 0 .shortLoad) still = .next still :=
  ⟨_, rfl, ⟨_, rfl, by decide, by decide⟩, rfl⟩

theorem test_restart_applies :
    still.powered = true ∧ still.restartLine = false ∧ ({ still with restartLine := true } : State).restartLine = true
      ∧ still.nv.inFlight = none ∧ still.ports.restartOwed = false
      ∧ (flying (.service (.unlock 0) false) still).nv.inFlight.isSome = true ∧ still.restart = none
      ∧ ({ still with restart := some .serviceRestart } : State).restart = some .serviceRestart := by decide

/-- A good and a bad image; an EMPTY, a SEALED and a DAMAGED slot; the directory's largest number. -/
theorem test_power_on_applies :
    still.array.image.crcOk = false ∧ ConfigSet.defaults.legal = true ∧ tableOk defaultTable = true
      ∧ numberAt (still.array.slots[(0 : Fin 12)]).header 0 1 = 0
      ∧ numberAt (sealedSlot Buffer.free .sealed true).header 0 1 = 2
      ∧ (sealedSlot Buffer.free .sealed true).computedCrc = numberAt (sealedSlot Buffer.free .sealed true).header 56 2
      ∧ numberAt ([3, 0] : List Byte) 0 1 ≠ 0 ∧ numberAt ([3, 0] : List Byte) 0 1 ≠ 2
      ∧ (∀ i j : Fin 12, (still.recorder.directory[j]).sequence ≤ (still.recorder.directory[i]).sequence)
      ∧ (still.recorder.directory[(0 : Fin 12)]).sequence < 4294967295 := by decide

/-- Nothing in flight, and each kind of operation in flight. -/
theorem test_power_loss_applies :
    still.powered = true ∧ still.nv.inFlight = none
      ∧ (flying (.service (.configStore none) false) still).nv.inFlight = some (.service (.configStore none) false)
      ∧ (flying (.service (.lock 11 1) false) still).nv.inFlight = some (.service (.lock 11 1) false)
      ∧ (flying (.service (.erase 11 1) true) still).nv.inFlight = some (.service (.erase 11 1) true)
      ∧ (flying (.service (.erase 11 1) false) still).nv.inFlight = some (.service (.erase 11 1) false)
      ∧ (still.array.slots[(11 : Fin 12)]).header.length = 58
      ∧ (flying (.sealing 1 11 true true) still).nv.inFlight = some (.sealing 1 11 true true) := by decide

/-- S1 leaves IDLE from a table in which nothing governs, below a governor, and above one. -/
theorem test_authority_applies :
    still.arbiter.Lawful ∧ raised.arbiter.Lawful
      ∧ still.arbiter.standing .s1 = .idle ∧ sourceLevel .s1 ≤ still.arbiter.authority
      ∧ still.arbiter.standing .s8 = .idle ∧ still.arbiter.authority < sourceLevel .s8
      ∧ raised.arbiter.standing .s8 = .governing ∧ raised.arbiter.standing .s7 = .held
      ∧ raised.arbiter.standing .s5 = .pending ∧ raised.arbiter.stack = [] ++ [.s7]
      ∧ still.arbiter.standing .s7 = .governing ∧ still.arbiter.stack = []
      ∧ (∀ k, still.arbiter.standing k ≠ .pending) :=
  ⟨still_arbiter.lawful, raised_arbiter.lawful, by decide, by decide, by decide, by decide, by decide, by decide,
    by decide, by decide, by decide, by decide, by intro k; cases k <;> decide⟩

/-- The invariants hold of a state that a command takes to a next one. -/
theorem test_laws_apply :
    ArbiterInv still ∧ OrderInv still ∧ QueueInv still ∧ Bounded still ∧ (∃ t, exec .blendPeriod still = .next t)
      ∧ ArbiterInv { still with pending := [.emergency] }
      ∧ ∃ t, step { still with pending := [.emergency] } = .next t :=
  ⟨still_arbiter, (fun o h => by cases (show none = some _ from h)), (by intro p; cases p <;> decide),
    ⟨by decide, by decide, by intro i; cases i <;> decide, by intro i; cases i <;> decide, by decide, by decide⟩, ⟨_, rfl⟩,
    arbiter_of still_arbiter rfl, _, rfl⟩

theorem sealWaits_config : ConfigInv sealWaits where
  legal := by decide
  table := by decide
  owed := by decide
  single := by decide
  flying := by intro op h; exact absurd h (by simp [sealWaits, State.serviceInFlight])
  waiting := by intro op h; exact absurd h (by simp [sealWaits])

theorem test_store_laws_apply :
    ConfigInv sealWaits ∧ IncidentInv sealWaits ∧ ∃ t, step sealWaits = .next t :=
  ⟨sealWaits_config, sealWaits_store, _, rfl⟩

/-- S8's raisers are released at standstill. -/
theorem test_penalties_end_applies :
    ArbiterInv raised ∧ raised.restart = none ∧ raised.arbiter.nonIdle .s5 = true
      ∧ ∃ t, exec .releasePenalty raised = .next t ∧ t.arbiter.nonIdle .s5 = false :=
  ⟨raised_arbiter, rfl, by decide, _, rfl, by decide⟩

end Sys2Proof.Tests
end

/-! SUPPORT. How authority passes when an entry leaves or goes IDLE (R4, R6, R7): what each transition writes, and the obligation O54. -/

namespace Sys2Proof.Machine

/-! ### The candidate of R6 -/

/-- The better of the best source so far and the next one: one step of the fold of R6. -/
def Arbiter.better (a : Arbiter) (best : Option Source) (s : Source) : Option Source :=
  if a.standing s = .pending then
    match best with
    | none => some s
    | some b => if sourceLevel b < sourceLevel s then some s else some b
  else best

theorem Arbiter.candidate_eq_foldl (a : Arbiter) : a.candidate = Source.all.foldl a.better none := rfl

theorem Arbiter.better_of_not_pending {a : Arbiter} {s : Source} (h : a.standing s ≠ .pending) (best : Option Source) :
    a.better best s = best := by
  simp [Arbiter.better, h]

theorem Arbiter.better_none {a : Arbiter} {s : Source} (h : a.standing s = .pending) : a.better none s = some s := by
  simp [Arbiter.better, h]

theorem Arbiter.better_some {a : Arbiter} {s : Source} (h : a.standing s = .pending) (b : Source) :
    a.better (some b) s = if sourceLevel b < sourceLevel s then some s else some b := by
  simp [Arbiter.better, h]

/-- A source that every other waiting source of a list is below stays the best. -/
theorem Arbiter.foldl_better_stays {a : Arbiter} {c : Source} {l : List Source}
    (hl : ∀ s ∈ l, a.standing s = .pending → sourceLevel s ≤ sourceLevel c) :
    l.foldl a.better (some c) = some c := by
  induction l with
  | nil => rfl
  | cons x xs ih =>
    have hx : a.better (some c) x = some c := by
      by_cases hp : a.standing x = .pending
      · rw [Arbiter.better_some hp, if_neg (Nat.not_lt.mpr (hl x (by simp) hp))]
      · exact Arbiter.better_of_not_pending hp _
    rw [List.foldl_cons, hx]
    exact ih fun s hs => hl s (by simp [hs])

/-- Over sources that are all below a later one, the best so far is none or one of lower level. -/
theorem Arbiter.foldl_better_below {a : Arbiter} {n : Nat} {l : List Source} {best : Option Source}
    (hb : ∀ b ∈ best, sourceLevel b < n)
    (hl : ∀ s ∈ l, a.standing s = .pending → sourceLevel s < n) :
    ∀ b ∈ l.foldl a.better best, sourceLevel b < n := by
  induction l generalizing best with
  | nil => exact hb
  | cons x xs ih =>
    refine ih ?_ fun s hs => hl s (by simp [hs])
    by_cases hp : a.standing x = .pending
    · have hx := hl x (by simp) hp
      cases best with
      | none => simpa [Arbiter.better_none hp] using hx
      | some b =>
        rw [Arbiter.better_some hp]
        split
        · simpa using hx
        · exact hb
    · rwa [Arbiter.better_of_not_pending hp]

theorem Source.all_ascending : Source.all.Pairwise fun x y => x.number < y.number := by decide

/-- The waiting source of highest level and, among equals, of lowest source number is the candidate (R6). -/
theorem Arbiter.candidate_eq_some {a : Arbiter} {c : Source} (hc : a.standing c = .pending)
    (hbest : ∀ k, a.standing k = .pending →
      sourceLevel k ≤ sourceLevel c ∧ (sourceLevel k = sourceLevel c → c.number ≤ k.number)) :
    a.candidate = some c := by
  obtain ⟨pre, post, hall⟩ := List.append_of_mem (Source.mem_all c)
  have hasc := Source.all_ascending
  rw [hall, List.pairwise_append] at hasc
  obtain ⟨-, -, hpre⟩ := hasc
  have hbelow : ∀ b ∈ pre.foldl a.better none, sourceLevel b < sourceLevel c := by
    refine Arbiter.foldl_better_below (by simp) fun s hs hp => ?_
    obtain ⟨hle, heq⟩ := hbest s hp
    have := hpre s hs c (by simp)
    omega
  have htake : a.better (pre.foldl a.better none) c = some c := by
    cases hb : pre.foldl a.better none with
    | none => exact Arbiter.better_none hc
    | some b => rw [Arbiter.better_some hc, if_pos (hbelow b hb)]
  rw [Arbiter.candidate_eq_foldl, hall, List.foldl_append, List.foldl_cons, htake]
  exact Arbiter.foldl_better_stays fun s _ hp => (hbest s hp).1

theorem Arbiter.candidate_eq_none {a : Arbiter} (h : ∀ k, a.standing k ≠ .pending) : a.candidate = none := by
  cases hc : a.candidate with
  | none => rfl
  | some c => exact absurd (Arbiter.candidate_some hc).1 (h c)

/-! ### Re-evaluation (R6) -/

theorem Arbiter.reevaluate_of_none {b : Arbiter} (hc : b.candidate = none) (hs : b.stack = []) :
    b.reevaluate = { b with governor := none } := by
  simp [Arbiter.reevaluate, hc, hs]

theorem Arbiter.reevaluate_of_candidate {b : Arbiter} {c : Source} (hc : b.candidate = some c)
    (htop : ∀ top, b.stack.getLast? = some top → sourceLevel top < sourceLevel c) :
    b.reevaluate = { b.withStanding c .governing with governor := some c } := by
  have hlevel : b.topLevel < sourceLevel c := by
    unfold Arbiter.topLevel
    split
    · exact sourceLevel_pos c
    · exact htop _ ‹_›
  simp [Arbiter.reevaluate, hc, hlevel]

theorem Arbiter.reevaluate_of_top {b : Arbiter} {rest : List Source} {top : Source} (hs : b.stack = rest ++ [top])
    (hc : ∀ c, b.candidate = some c → sourceLevel c ≤ sourceLevel top) :
    b.reevaluate = { b.withStanding top .governing with governor := some top, stack := rest } := by
  have hlevel : b.topLevel = sourceLevel top := by simp [Arbiter.topLevel, hs]
  cases h : b.candidate with
  | none => simp [Arbiter.reevaluate, h, hs]
  | some c => simp [Arbiter.reevaluate, h, hs, hlevel, Nat.not_lt.mpr (hc c h)]

/-! ### An entry leaves IDLE (R4) -/

/-- The table with one source's stamp written, before its entry is taken out of IDLE (R1). -/
def Arbiter.stamped (a : Arbiter) (now : Nat) (g : Source) : Arbiter :=
  { a with entries := a.entries.set g { a.entries.get g with stamp := now } }

theorem Arbiter.stamped_standing (a : Arbiter) (now : Nat) (g k : Source) :
    (a.stamped now g).standing k = a.standing k := by
  unfold Arbiter.standing Arbiter.stamped
  by_cases h : k = g
  · subst h; simp
  · simp [PerSource.get_set_ne _ _ h]

theorem Arbiter.leaveIdle_of_none {a : Arbiter} {g : Source} (now : Nat) (h : a.authority < sourceLevel g)
    (hgov : a.governor = none) :
    a.leaveIdle now g = { (a.stamped now g).withStanding g .governing with governor := some g } := by
  simp [Arbiter.leaveIdle, Arbiter.stamped, h, hgov]

theorem Arbiter.leaveIdle_of_some {a : Arbiter} {g old : Source} (now : Nat) (h : a.authority < sourceLevel g)
    (hgov : a.governor = some old) :
    a.leaveIdle now g =
      { ((a.stamped now g).withStanding old .held).withStanding g .governing with
        governor := some g, stack := a.stack ++ [old] } := by
  simp [Arbiter.leaveIdle, Arbiter.stamped, h, hgov]

theorem Arbiter.leaveIdle_of_le {a : Arbiter} {g : Source} (now : Nat) (h : sourceLevel g ≤ a.authority) :
    a.leaveIdle now g = (a.stamped now g).withStanding g .pending := by
  simp [Arbiter.leaveIdle, Arbiter.stamped, Nat.not_lt.mpr h]

/-- An entry that leaves IDLE above the standing authority governs, and the governor before it is HELD on the stack (R4). -/
theorem Arbiter.leaveIdle_above {a : Arbiter} {g : Source} (now : Nat) (h : a.authority < sourceLevel g) :
    (a.leaveIdle now g).governor = some g ∧ (a.leaveIdle now g).stack = a.stack ++ a.governor.toList
    ∧ ∀ k, (a.leaveIdle now g).standing k =
      if k = g then .governing else if a.governor = some k then .held else a.standing k := by
  cases hgov : a.governor with
  | none =>
    rw [Arbiter.leaveIdle_of_none now h hgov]
    refine ⟨rfl, (List.append_nil _).symm, fun k => ?_⟩
    refine (Arbiter.standing_withStanding _ g k .governing).trans ?_
    simp [Arbiter.stamped_standing]
  | some old =>
    rw [Arbiter.leaveIdle_of_some now h hgov]
    refine ⟨rfl, rfl, fun k => ?_⟩
    refine (Arbiter.standing_withStanding _ g k .governing).trans ?_
    simp [Arbiter.standing_withStanding, Arbiter.stamped_standing, eq_comm]

/-- An entry that leaves IDLE at or below the standing authority is PENDING, and authority stands (R4). -/
theorem Arbiter.leaveIdle_below {a : Arbiter} {g : Source} (now : Nat) (h : sourceLevel g ≤ a.authority) :
    (a.leaveIdle now g).governor = a.governor ∧ (a.leaveIdle now g).stack = a.stack
    ∧ ∀ k, (a.leaveIdle now g).standing k = if k = g then .pending else a.standing k := by
  rw [Arbiter.leaveIdle_of_le now h]
  refine ⟨rfl, rfl, fun k => ?_⟩
  rw [Arbiter.standing_withStanding, Arbiter.stamped_standing]

/-! ### An entry goes IDLE (R6, R7) -/

/-- The table with one source's entry put to IDLE, before authority is looked at again (R1). -/
def Arbiter.gone (a : Arbiter) (g : Source) : Arbiter :=
  { a with entries := a.entries.set g (Entry.gone g (a.entries.get g)) }

@[simp] theorem Arbiter.gone_stack (a : Arbiter) (g : Source) : (a.gone g).stack = a.stack := rfl
@[simp] theorem Arbiter.gone_governor (a : Arbiter) (g : Source) : (a.gone g).governor = a.governor := rfl

theorem Arbiter.gone_standing (a : Arbiter) (g k : Source) :
    (a.gone g).standing k = if k = g then .idle else a.standing k := a.standing_gone g k

/-- What waits once an entry has been put to IDLE waited before. -/
theorem Arbiter.pending_of_gone {a : Arbiter} {g k : Source} (h : (a.gone g).standing k = .pending) :
    a.standing k = .pending := by
  rw [Arbiter.gone_standing] at h
  split at h
  · cases h
  · exact h

theorem Arbiter.goIdle_of_governing {a : Arbiter} {g : Source} (h : a.standing g = .governing) :
    a.goIdle g = (a.gone g).reevaluate := by
  simp [Arbiter.goIdle, Arbiter.gone, h]

theorem Arbiter.goIdle_of_held {a : Arbiter} {g : Source} (h : a.standing g = .held) :
    a.goIdle g = { a.gone g with stack := a.stack.erase g } := by
  simp [Arbiter.goIdle, Arbiter.gone, h]

theorem Arbiter.goIdle_of_pending {a : Arbiter} {g : Source} (h : a.standing g = .pending) : a.goIdle g = a.gone g := by
  simp [Arbiter.goIdle, Arbiter.gone, h]

theorem Arbiter.Lawful.standing_goIdle_self {a : Arbiter} (ha : a.Lawful) (g : Source) :
    (a.goIdle g).standing g = .idle := by
  have h := ha.nonIdle_goIdle g g
  simpa [Arbiter.nonIdle] using h

theorem Arbiter.authority_of_governor {b : Arbiter} {g : Source} (h : b.governor = some g) :
    b.authority = sourceLevel g := by
  simp [Arbiter.authority, h]

theorem Arbiter.authority_congr {a b : Arbiter} (h : b.governor = a.governor) : b.authority = a.authority := by
  simp [Arbiter.authority, h]

/-- The governor goes IDLE with no entry waiting and none HELD: nothing governs (R6). -/
theorem Arbiter.goIdle_leaves_none {a : Arbiter} {g : Source} (hg : a.standing g = .governing) (hs : a.stack = [])
    (hp : ∀ k, a.standing k ≠ .pending) : (a.goIdle g).governor = none ∧ (a.goIdle g).stack = [] := by
  have hc : (a.gone g).candidate = none := Arbiter.candidate_eq_none fun k hk => hp k (Arbiter.pending_of_gone hk)
  rw [Arbiter.goIdle_of_governing hg, Arbiter.reevaluate_of_none hc hs]
  exact ⟨rfl, hs⟩

/-- The governor goes IDLE with a candidate above the top of the stack: the candidate governs (R6). -/
theorem Arbiter.goIdle_leaves_candidate {a : Arbiter} {g c : Source} (hg : a.standing g = .governing)
    (hc : a.standing c = .pending)
    (hbest : ∀ k, a.standing k = .pending →
      sourceLevel k ≤ sourceLevel c ∧ (sourceLevel k = sourceLevel c → c.number ≤ k.number))
    (htop : ∀ top, a.stack.getLast? = some top → sourceLevel top < sourceLevel c) :
    (a.goIdle g).governor = some c ∧ (a.goIdle g).stack = a.stack
    ∧ ∀ k, (a.goIdle g).standing k = if k = c then .governing else (a.gone g).standing k := by
  have hne : c ≠ g := by rintro rfl; rw [hg] at hc; cases hc
  have hcand : (a.gone g).candidate = some c :=
    Arbiter.candidate_eq_some (by rw [Arbiter.gone_standing, if_neg hne, hc]) fun k hk =>
      hbest k (Arbiter.pending_of_gone hk)
  rw [Arbiter.goIdle_of_governing hg, Arbiter.reevaluate_of_candidate hcand htop]
  exact ⟨rfl, rfl, fun k => Arbiter.standing_withStanding _ c k .governing⟩

/-- The governor goes IDLE with no waiting entry above the top of the stack: the top governs (R6). -/
theorem Arbiter.goIdle_leaves_top {a : Arbiter} {g top : Source} {rest : List Source} (hg : a.standing g = .governing)
    (hs : a.stack = rest ++ [top]) (hp : ∀ k, a.standing k = .pending → sourceLevel k ≤ sourceLevel top) :
    (a.goIdle g).governor = some top ∧ (a.goIdle g).stack = rest
    ∧ ∀ k, (a.goIdle g).standing k = if k = top then .governing else (a.gone g).standing k := by
  have hcand : ∀ c, (a.gone g).candidate = some c → sourceLevel c ≤ sourceLevel top := fun c hc =>
    hp c (Arbiter.pending_of_gone (Arbiter.candidate_some hc).1)
  rw [Arbiter.goIdle_of_governing hg, Arbiter.reevaluate_of_top (by rw [Arbiter.gone_stack, hs]) hcand]
  exact ⟨rfl, rfl, fun k => Arbiter.standing_withStanding _ top k .governing⟩

/-- Settles O54: each transition by the lemma that says what it writes, the laws by the lemmas that keep them. -/
theorem authorityTransitions : Obligations.AuthorityTransitions := by
  unfold Obligations.AuthorityTransitions
  intro a b now g ha
  refine ⟨?leaves, ?goes⟩
  case leaves =>
    rintro hidle rfl
    have same := a.sameDemands_leaveIdle now g
    refine ⟨ha.leaveIdle now hidle, fun k => ⟨same.posted k, same.inForce k⟩, fun hlt => ?above, fun hle => ?below⟩
    case above =>
      obtain ⟨hgov, hstack, hstand⟩ := Arbiter.leaveIdle_above now hlt
      refine ⟨hgov, by rw [hstand, if_pos rfl], Arbiter.authority_of_governor hgov, hstack, fun k hk => ?_,
        fun k hne hk => by rw [hstand, if_neg hne, if_neg hk]⟩
      have hne : k ≠ g := by
        rintro rfl
        rw [(ha.governs k).mpr hk] at hidle
        cases hidle
      rw [hstand, if_neg hne, if_pos hk]
    case below =>
      obtain ⟨hgov, hstack, hstand⟩ := Arbiter.leaveIdle_below now hle
      exact ⟨by rw [hstand, if_pos rfl], hgov, Arbiter.authority_congr hgov, hstack,
        fun k hne => by rw [hstand, if_neg hne]⟩
  case goes =>
    rintro rfl
    have hself := ha.standing_goIdle_self g
    refine ⟨ha.goIdle g, fun hg => ?governing, fun hg => ?held, fun hg => ?pending⟩
    case governing =>
      refine ⟨hself, rfl, fun k hne => by rw [Arbiter.inForce_goIdle, if_neg hne], fun hs hp => ?none,
        fun c hc hbest htop => ?candidate, fun rest top hs hp => ?top⟩
      case none =>
        obtain ⟨hgov, hstack⟩ := Arbiter.goIdle_leaves_none hg hs hp
        exact ⟨hgov, by simp [Arbiter.authority, hgov], hstack⟩
      case candidate =>
        obtain ⟨hgov, hstack, hstand⟩ := Arbiter.goIdle_leaves_candidate hg hc hbest htop
        exact ⟨hgov, by rw [hstand, if_pos rfl], Arbiter.authority_of_governor hgov, hstack,
          fun k hk hkc => by rw [hstand, if_neg hkc, Arbiter.gone_standing, if_neg hk]⟩
      case top =>
        obtain ⟨hgov, hstack, hstand⟩ := Arbiter.goIdle_leaves_top hg hs hp
        exact ⟨hgov, by rw [hstand, if_pos rfl], Arbiter.authority_of_governor hgov, hstack,
          fun k hk hkt => by rw [hstand, if_neg hkt, Arbiter.gone_standing, if_neg hk]⟩
    case held =>
      refine ⟨hself, ?_⟩
      rw [Arbiter.goIdle_of_held hg]
      exact ⟨rfl, rfl, rfl, fun k hk => (a.gone_standing g k).trans (if_neg hk)⟩
    case pending =>
      refine ⟨hself, ?_⟩
      rw [Arbiter.goIdle_of_pending hg]
      exact ⟨rfl, rfl, rfl, fun k hk => (a.gone_standing g k).trans (if_neg hk)⟩

end Sys2Proof.Machine

/-! SUPPORT. A request received at a port that is ready for it, and the two releases that are asked of the arbiter (R16, R21): the obligations O9 and O14. -/

namespace Sys2Proof.Machine

/-! ### A received request at a ready port (R161) -/

section
variable {s : State} {p : PortId}

theorem State.received_replies (p : PortId) (s : State) :
    ((s.received p).ports.port.get p).replies = (s.ports.port.get p).replies := by
  rw [State.received_ports]
  split <;> simp [Ports.refresh, Ports.withPort]

theorem State.received_outstanding (p : PortId) (s : State) :
    (s.received p).ports.outstanding = s.ports.outstanding := by
  rw [State.received_ports]
  split <;> rfl

/-- The reception of a frame takes no room from its port (R160, R161 step 1). -/
theorem State.received_waiting (p : PortId) (s : State) : (s.received p).ports.waiting p = s.ports.waiting p := by
  rw [Ports.waiting, State.received_replies, State.received_outstanding, Ports.waiting]

@[simp] theorem State.received_cfg (p : PortId) (s : State) : (s.received p).cfg = s.cfg := by
  rw [State.cfg, State.received_store, State.cfg]

/-- A port that is ready takes a request of its own, of the right length (R161). -/
theorem State.ready.takeFrame {k : Byte} {n : Nat} {act : State → State} (h : s.ready p)
    (hk : isReportCode k = false) (ha : accepts p k = true) (hn : requestLength k = some n) :
    s.takeFrame p k n act = act (s.received p) := by
  obtain ⟨-, hroom, hout⟩ := h
  refine State.takeFrame_take ?_
  simp only [Ports.judge, Ports.room, State.received_waiting, State.received_outstanding, hk, ha, hn, hroom]
  simpa using hout

/-- A port that is ready answers WRONG_PORT to a request that it does not accept (R161). -/
theorem State.ready.takeFrame_wrongPort {k : Byte} {n m : Nat} {act : State → State} (h : s.ready p)
    (hk : isReportCode k = false) (ha : accepts p k = false) (hn : requestLength k = some m) :
    s.takeFrame p k n act = (s.received p).reply p k .wrongPort [] := by
  obtain ⟨-, hroom, -⟩ := h
  have hjudge : (s.received p).ports.judge p k n = .answer .wrongPort := by
    simp [Ports.judge, Ports.room, State.received_waiting, hk, ha, hn, hroom]
  simp [State.takeFrame, hjudge]

end

/-! ### Events that change conditions alone (R8) -/

/-- What an event leaves whose first step changes the conditions of some sources and writes no entry. -/
theorem Arbiter.follows_of_conditions {a b : Arbiter} (ha : a.Lawful) (hc : a.Conditioned) (cfg : ConfigSet) (now : Nat)
    (touched : List Source) (hentries : b.entries = a.entries) (hgov : b.governor = a.governor)
    (hstack : b.stack = a.stack) (hwants : ∀ g, g ∉ touched → b.wants g = a.wants g) :
    Arbiter.Follows cfg now touched a (Arbiter.settle cfg now b) :=
  Arbiter.follows_settle ha hc cfg now touched (fun g => by rw [Arbiter.standing, hentries, Arbiter.standing]) hgov hstack
    (fun g => by rw [hentries]) hwants
    (fun g _ _ _ _ => ⟨by rw [hentries], by rw [Arbiter.inForce, hentries, Arbiter.inForce]⟩)

/-- S8's raisers are the condition of S8 alone (R2). -/
theorem Arbiter.follows_emergencyRaisers {a : Arbiter} (ha : a.Lawful) (hc : a.Conditioned) (cfg : ConfigSet) (now : Nat)
    (r : EmergencyRaisers) :
    Arbiter.Follows cfg now [.s8] a (Arbiter.settle cfg now { a with emergencyRaisers := r }) := by
  refine Arbiter.follows_of_conditions ha hc cfg now _ rfl rfl rfl fun g hg => ?_
  cases g
  case s8 => simp at hg
  all_goals rfl

/-- A raised penalty is the condition of S5 alone (R2). -/
theorem Arbiter.follows_penaltyRaised {a : Arbiter} (ha : a.Lawful) (hc : a.Conditioned) (cfg : ConfigSet) (now : Nat)
    (raised : Bool) :
    Arbiter.Follows cfg now [.s5] a (Arbiter.settle cfg now { a with penaltyRaised := raised }) := by
  refine Arbiter.follows_of_conditions ha hc cfg now _ rfl rfl rfl fun g hg => ?_
  cases g
  case s5 => simp at hg
  all_goals rfl

/-- The supervision link's change to FRESH can release restraint, and does nothing else (R26, R173). -/
theorem Arbiter.takeSupervisionFresh_eq (a : Arbiter) :
    ∃ raised, a.takeSupervisionFresh = { a with supervisionFresh := true, restraintRaised := raised } := by
  unfold Arbiter.takeSupervisionFresh Arbiter.evaluateRestraint
  split
  · exact ⟨_, rfl⟩
  · exact ⟨_, rfl⟩

theorem Arbiter.follows_takeSupervisionFresh {a : Arbiter} (ha : a.Lawful) (hc : a.Conditioned) (cfg : ConfigSet)
    (now : Nat) : Arbiter.Follows cfg now [.s7] a (Arbiter.settle cfg now a.takeSupervisionFresh) := by
  obtain ⟨raised, heq⟩ := a.takeSupervisionFresh_eq
  rw [heq]
  refine Arbiter.follows_of_conditions ha hc cfg now _ rfl rfl rfl fun g hg => ?_
  cases g
  case s7 => simp at hg
  all_goals rfl

/-! ### The arbiter once a frame has been received (R161 step 1, R173) -/

section
variable {s : State}

/-- The reception of a frame leaves the arbiter as it is, or has it take the supervision link's change to FRESH. -/
theorem State.received_arbiter_cases (p : PortId) (s : State) :
    (s.received p).arbiter = s.arbiter
    ∨ (s.received p).arbiter = Arbiter.settle s.cfg s.time s.arbiter.takeSupervisionFresh := by
  by_cases hp : p = .supervision
  · simp only [State.received, hp, if_true, State.refreshLink]
    split
    · exact .inl rfl
    · exact .inr rfl
  · rw [State.received_eq hp]
    exact .inl rfl

/-- The laws of the arbiter stand once a frame has been received. -/
theorem ArbiterInv.received (h : ArbiterInv s) (p : PortId) : ArbiterInv (s.received p) := by
  rcases s.received_arbiter_cases p with e | e
  · exact ⟨e ▸ h.lawful, e ▸ h.conditioned, e ▸ h.record⟩
  · have hf := Arbiter.follows_takeSupervisionFresh h.lawful h.conditioned s.cfg s.time
    rw [← e] at hf
    exact ⟨hf.lawful, hf.conditioned, hf.record⟩

theorem ArbiterInv.received_nonIdle (h : ArbiterInv s) (p : PortId) {g : Source} (hg : g ≠ .s7) :
    (s.received p).arbiter.nonIdle g = s.arbiter.nonIdle g := by
  rcases s.received_arbiter_cases p with e | e <;> rw [e]
  exact (Arbiter.follows_takeSupervisionFresh h.lawful h.conditioned s.cfg s.time).nonIdle g (by simpa using hg)

/-- An entry but S7's leaves no IDLE when a frame is received, so that its stamp stands (R1). -/
theorem ArbiterInv.received_stamp (h : ArbiterInv s) (p : PortId) {g : Source} (hg : g ≠ .s7) :
    ((s.received p).arbiter.entries.get g).stamp = (s.arbiter.entries.get g).stamp := by
  rcases s.received_arbiter_cases p with e | e <;> rw [e]
  have hf := Arbiter.follows_takeSupervisionFresh h.lawful h.conditioned s.cfg s.time
  rw [hf.stamp, hf.nonIdle g (by simpa using hg)]
  cases s.arbiter.nonIdle g <;> rfl

theorem ArbiterInv.received_standstill_raisers (h : ArbiterInv s) (p : PortId) :
    (s.received p).arbiter.standstill = s.arbiter.standstill
    ∧ (s.received p).arbiter.emergencyRaisers = s.arbiter.emergencyRaisers := by
  rcases s.received_arbiter_cases p with e | e <;> rw [e]
  · exact ⟨rfl, rfl⟩
  · obtain ⟨raised, heq⟩ := s.arbiter.takeSupervisionFresh_eq
    have hlaw : s.arbiter.takeSupervisionFresh.Lawful := by
      rw [heq]
      exact h.lawful.of_same (fun _ => rfl) rfl rfl
    have hflags := (Arbiter.settle_settled hlaw s.cfg s.time).flags
    exact ⟨by rw [hflags.standstill, heq], by rw [hflags.emergencyRaisers, heq]⟩

end

/-! ### RELEASE EMERGENCY (R21) -/

section
variable {a : Arbiter} {cfg : ConfigSet} {now : Nat} {r : EmergencyRaiser}

theorem EmergencyRaisers.any_of_has {rs : EmergencyRaisers} (h : rs.has r = true) : rs.any = true := by
  cases r <;> simp_all [EmergencyRaisers.has, EmergencyRaisers.any]

theorem Arbiter.releaseEmergencyResult_notRaised (h : a.emergencyRaisers.has r = false) :
    a.releaseEmergencyResult cfg now r = .notRaised := by
  simp [Arbiter.releaseEmergencyResult, h]

theorem Arbiter.releaseEmergencyResult_tooEarly (h : a.emergencyRaisers.has r = true)
    (hearly : a.standstill = false ∨ now < a.entries.s8.stamp + cfg.emergencyHoldMs) :
    a.releaseEmergencyResult cfg now r = .tooEarly := by
  rcases hearly with hs | hs
  · simp [Arbiter.releaseEmergencyResult, h, hs]
  · simp [Arbiter.releaseEmergencyResult, Arbiter.holdPassed, h, Nat.not_le.mpr hs]

/-- A raiser in S8's set makes S8 non-idle (R2), so that the hold has passed with its time (R18). -/
theorem Arbiter.releaseEmergencyResult_ok (hc : a.Conditioned) (h : a.emergencyRaisers.has r = true)
    (hs : a.standstill = true) (hhold : a.entries.s8.stamp + cfg.emergencyHoldMs ≤ now) :
    a.releaseEmergencyResult cfg now r = .ok := by
  have hnon : a.nonIdle .s8 = true := (hc .s8).trans (EmergencyRaisers.any_of_has h)
  simp [Arbiter.releaseEmergencyResult, Arbiter.holdPassed, h, hs, hnon, hhold]

theorem Arbiter.takeReleaseEmergency_of_ok (h : a.releaseEmergencyResult cfg now r = .ok) :
    a.takeReleaseEmergency cfg now r = { a with emergencyRaisers := a.emergencyRaisers.remove r } := by
  simp [Arbiter.takeReleaseEmergency, h]

end

section
variable {s : State} {p : PortId}

theorem State.actReleaseEmergency_of_ok
    (h : s.arbiter.releaseEmergencyResult s.cfg s.time (portRaiser p) = .ok) :
    s.actReleaseEmergency p = (s.arbiterEvent (.takeReleaseEmergency s.cfg s.time (portRaiser p))).reply p
      kindReleaseEmergency .ok [] := by
  simp [State.actReleaseEmergency, h]

theorem State.actReleaseEmergency_of_refused {x : Result}
    (h : s.arbiter.releaseEmergencyResult s.cfg s.time (portRaiser p) = x) (hx : x ≠ .ok) :
    s.actReleaseEmergency p = s.reply p kindReleaseEmergency x [] := by
  unfold State.actReleaseEmergency
  split
  · rename_i hok
    exact absurd (h.symm.trans hok) hx
  · rw [h]

theorem exec_releaseEmergency (h : s.powered = true) :
    exec (.releaseEmergency p) s = .next (s.releaseEmergency p) := powered_on h

/-- What a RELEASE EMERGENCY that is answered OK does to the part (R21). -/
theorem ArbiterInv.releaseEmergency_ok (h : ArbiterInv s)
    (hok : s.arbiter.releaseEmergencyResult s.cfg s.time (portRaiser p) = .ok) :
    ∃ u, ArbiterReports s u
      ∧ Arbiter.Follows s.cfg s.time [.s8] s.arbiter u.arbiter
      ∧ Arbiter.Rest { s.arbiter with emergencyRaisers := s.arbiter.emergencyRaisers.remove (portRaiser p) } u.arbiter
      ∧ u.Replied (s.actReleaseEmergency p) p (replyFrame kindReleaseEmergency .ok []) := by
  have htake := Arbiter.takeReleaseEmergency_of_ok hok
  refine ⟨s.arbiterEvent (.takeReleaseEmergency s.cfg s.time (portRaiser p)), s.arbiterEvent_reports _, ?_, ?_, ?_⟩
  · rw [State.arbiterEvent_arbiter, htake]
    exact Arbiter.follows_emergencyRaisers h.lawful h.conditioned _ _ _
  · rw [← htake]
    refine State.arbiterEvent_rest (f := .takeReleaseEmergency s.cfg s.time (portRaiser p)) ?_
    rw [htake]
    exact h.lawful.of_same (fun _ => rfl) rfl rfl
  · rw [State.actReleaseEmergency_of_ok hok]
    exact State.reply_replied _ _ _ _ _

/-- The two ports that a RELEASE EMERGENCY belongs to, each with its raiser (R21). -/
theorem releaseEmergency_port {raiser : EmergencyRaiser}
    (h : (p = .cab ∧ raiser = .cab) ∨ (p = .supervision ∧ raiser = .supervision)) :
    accepts p kindReleaseEmergency = true ∧ portRaiser p = raiser := by
  rcases h with ⟨rfl, rfl⟩ | ⟨rfl, rfl⟩ <;> decide

end

/-- Settles O9: the request is judged by R161, and what is taken is answered by R21's result of the arbiter that the reception left. -/
theorem releaseEmergencyAnswered : Obligations.ReleaseEmergencyAnswered := by
  unfold Obligations.ReleaseEmergencyAnswered
  intro p s hready hinv
  refine ⟨s.releaseEmergency p, exec_releaseEmergency hready.1, fun hp => ?wrong, fun raiser hp => ?own⟩
  case wrong =>
    have hno : accepts p kindReleaseEmergency = false := by rcases hp with rfl | rfl <;> decide
    rw [State.releaseEmergency, hready.takeFrame_wrongPort (by decide) hno (by decide : _ = some 0)]
    exact State.reply_replied _ _ _ _ _
  case own =>
    obtain ⟨hyes, rfl⟩ := releaseEmergency_port hp
    have hinv' := hinv.received p
    obtain ⟨hstill, hraisers⟩ := hinv.received_standstill_raisers p
    have hstamp : (s.received p).arbiter.entries.s8.stamp = s.arbiter.entries.s8.stamp :=
      hinv.received_stamp p (g := .s8) (by decide)
    rw [State.releaseEmergency, hready.takeFrame (by decide) hyes (by decide)]
    rw [← hraisers, ← hstill, ← hstamp]
    refine ⟨fun h => ?notRaised, fun h hearly => ?tooEarly, fun h hs hhold => ?ok⟩
    case notRaised =>
      rw [State.actReleaseEmergency_of_refused (Arbiter.releaseEmergencyResult_notRaised h) (by decide)]
      exact State.reply_replied _ _ _ _ _
    case tooEarly =>
      have hres : (s.received p).arbiter.releaseEmergencyResult (s.received p).cfg (s.received p).time (portRaiser p)
          = .tooEarly := Arbiter.releaseEmergencyResult_tooEarly h (by rwa [State.received_cfg, State.received_time])
      rw [State.actReleaseEmergency_of_refused hres (by decide)]
      exact State.reply_replied _ _ _ _ _
    case ok =>
      have hres : (s.received p).arbiter.releaseEmergencyResult (s.received p).cfg (s.received p).time (portRaiser p)
          = .ok :=
        Arbiter.releaseEmergencyResult_ok hinv'.conditioned h hs (by rwa [State.received_cfg, State.received_time])
      have hok := hinv'.releaseEmergency_ok hres
      rwa [State.received_cfg, State.received_time] at hok

/-! ### RELEASE PENALTY (R16) -/

/-- Where a source's entry is IDLE, both its efforts are 0 (R1). -/
def Arbiter.EmptyIfIdle (a : Arbiter) (g : Source) : Prop :=
  a.nonIdle g = false → a.inForce g = 0 ∧ (a.entries.get g).posted = 0

theorem Entry.gone_posted {g : Source} (hg : g ∉ [.s0, .s1, .s3]) (e : Entry) : (Entry.gone g e).posted = 0 := by
  cases g
  case s0 | s1 | s3 => simp at hg
  all_goals rfl

/-- An entry that goes IDLE loses its efforts, but for the posted effort of a handle (R1). -/
theorem Arbiter.Lawful.emptyIfIdle_goIdle {a : Arbiter} (ha : a.Lawful) {g : Source} (hg : g ∉ [.s0, .s1, .s3])
    (h : a.EmptyIfIdle g) (x : Source) : (a.goIdle x).EmptyIfIdle g := by
  intro hidle
  rw [ha.nonIdle_goIdle] at hidle
  rw [Arbiter.inForce_goIdle, Arbiter.posted_goIdle]
  by_cases e : g = x
  · subst e
    exact ⟨if_pos rfl, by rw [if_pos rfl, Entry.gone_posted hg]⟩
  · rw [if_neg e, if_neg e]
    exact h (by simpa [e] using hidle)

theorem Arbiter.Lawful.emptyIfIdle_goIdles {a : Arbiter} (ha : a.Lawful) {g : Source} (hg : g ∉ [.s0, .s1, .s3])
    (h : a.EmptyIfIdle g) : a.goIdles.EmptyIfIdle g := by
  have hfold : a.goIdles.Lawful ∧ a.goIdles.EmptyIfIdle g := by
    refine List.foldlRecOn (motive := fun b : Arbiter => b.Lawful ∧ b.EmptyIfIdle g) Source.all Arbiter.release
      ⟨ha, h⟩ ?_
    rintro b ⟨hb, hempty⟩ x -
    unfold Arbiter.release
    split
    · exact ⟨hb.goIdle x, hb.emptyIfIdle_goIdle hg hempty x⟩
    · exact ⟨hb, hempty⟩
  exact hfold.2

/-- Rebuilding the record is no change of the entries (R8). -/
theorem Arbiter.entries_settle (cfg : ConfigSet) (now : Nat) (a : Arbiter) :
    (Arbiter.settle cfg now a).entries = ((a.goIdles.leaveIdles now).refreshEfforts cfg).entries := by
  unfold Arbiter.settle
  generalize (a.goIdles.leaveIdles now).refreshEfforts cfg = b
  rfl

/-- An entry whose condition an event has ended is IDLE after it, with both efforts 0 (R1, R8). -/
theorem Arbiter.Lawful.settle_released {a : Arbiter} (ha : a.Lawful) {g : Source}
    (hg : g ∉ [.s0, .s1, .s3, .s6, .s7, .s8]) (hnon : a.nonIdle g = true) (hw : a.wants g = false)
    (cfg : ConfigSet) (now : Nat) :
    (Arbiter.settle cfg now a).nonIdle g = false ∧ (Arbiter.settle cfg now a).inForce g = 0
    ∧ ((Arbiter.settle cfg now a).entries.get g).posted = 0 := by
  simp only [List.mem_cons, List.not_mem_nil, or_false, not_or] at hg
  obtain ⟨h0, h1, h3, h6, h7, h8⟩ := hg
  obtain ⟨hlaw, -, hidles, -⟩ := ha.goIdles
  obtain ⟨-, same, -⟩ := hlaw.leaveIdles now
  obtain ⟨-, -, -, -, hfresh, -⟩ := Arbiter.refreshEfforts_spec (a.goIdles.leaveIdles now) cfg
  obtain ⟨hforce, hposted⟩ := hfresh g h6 h7 h8
  have hempty : a.goIdles.EmptyIfIdle g :=
    ha.emptyIfIdle_goIdles (by simp [h0, h1, h3]) (fun h => by rw [hnon] at h; cases h)
  obtain ⟨hforce0, hposted0⟩ := hempty (by rw [hidles, hnon, hw]; rfl)
  refine ⟨by rw [(Arbiter.settle_settled ha cfg now).nonIdle, hw], ?_, ?_⟩
  · rw [Arbiter.inForce, Arbiter.entries_settle, ← Arbiter.inForce, hforce, same.inForce, hforce0]
  · rw [Arbiter.entries_settle, hposted, same.posted, hposted0]

section
variable {a : Arbiter} {s : State}

theorem Arbiter.releasePenaltyResult_notRaised (h : a.nonIdle .s5 = false) : a.releasePenaltyResult = .notRaised := by
  simp [Arbiter.releasePenaltyResult, h]

theorem Arbiter.releasePenaltyResult_tooEarly (h : a.nonIdle .s5 = true) (hs : a.standstill = false) :
    a.releasePenaltyResult = .tooEarly := by
  simp [Arbiter.releasePenaltyResult, h, hs]

theorem Arbiter.releasePenaltyResult_ok (h : a.nonIdle .s5 = true) (hs : a.standstill = true) :
    a.releasePenaltyResult = .ok := by
  simp [Arbiter.releasePenaltyResult, h, hs]

theorem Arbiter.takeReleasePenalty_of_ok (h : a.releasePenaltyResult = .ok) :
    a.takeReleasePenalty = { a with penaltyRaised := false } := by
  simp [Arbiter.takeReleasePenalty, h]

theorem State.actReleasePenalty_of_ok (h : s.arbiter.releasePenaltyResult = .ok) :
    s.actReleasePenalty = (s.arbiterEvent .takeReleasePenalty).reply .supervision kindReleasePenalty .ok [] := by
  simp [State.actReleasePenalty, h]

theorem State.actReleasePenalty_of_refused {x : Result} (h : s.arbiter.releasePenaltyResult = x) (hx : x ≠ .ok) :
    s.actReleasePenalty = s.reply .supervision kindReleasePenalty x [] := by
  unfold State.actReleasePenalty
  split
  · rename_i hok
    exact absurd (h.symm.trans hok) hx
  · rw [h]

theorem exec_releasePenalty (h : s.powered = true) : exec .releasePenalty s = .next s.releasePenalty := powered_on h

/-- What a RELEASE PENALTY that is answered OK does to the part (R16). -/
theorem ArbiterInv.releasePenalty_ok (h : ArbiterInv s) (hnon : s.arbiter.nonIdle .s5 = true)
    (hs : s.arbiter.standstill = true) :
    ∃ u, ArbiterReports s u
      ∧ u.arbiter.nonIdle .s5 = false
      ∧ (u.arbiter.entries.get .s5).posted = 0 ∧ u.arbiter.inForce .s5 = 0
      ∧ Arbiter.Follows s.cfg s.time [.s5] s.arbiter u.arbiter
      ∧ Arbiter.Rest { s.arbiter with penaltyRaised := false } u.arbiter
      ∧ u.Replied s.actReleasePenalty .supervision (replyFrame kindReleasePenalty .ok []) := by
  have hok := Arbiter.releasePenaltyResult_ok hnon hs
  have htake := Arbiter.takeReleasePenalty_of_ok hok
  have hlaw : s.arbiter.takeReleasePenalty.Lawful := by
    rw [htake]
    exact h.lawful.of_same (fun _ => rfl) rfl rfl
  obtain ⟨hidle, hforce, hposted⟩ :=
    hlaw.settle_released (g := .s5) (by decide) (by rw [htake]; exact hnon) (by rw [htake]; rfl) s.cfg s.time
  rw [← State.arbiterEvent_arbiter] at hidle hforce hposted
  refine ⟨s.arbiterEvent .takeReleasePenalty, s.arbiterEvent_reports _, hidle, hposted, hforce, ?_, ?_, ?_⟩
  · rw [State.arbiterEvent_arbiter, htake]
    exact Arbiter.follows_penaltyRaised h.lawful h.conditioned _ _ _
  · rw [← htake]
    exact State.arbiterEvent_rest hlaw
  · rw [State.actReleasePenalty_of_ok hok]
    exact State.reply_replied _ _ _ _ _

end

/-- Settles O14: the request is taken, and answered by R16's rows for the arbiter that the reception left. -/
theorem releasePenaltyAnswered : Obligations.ReleasePenaltyAnswered := by
  unfold Obligations.ReleasePenaltyAnswered
  intro s hready hinv
  have hinv' := hinv.received .supervision
  obtain ⟨hstill, -⟩ := hinv.received_standstill_raisers .supervision
  refine ⟨s.releasePenalty, exec_releasePenalty hready.1, ?_⟩
  rw [State.releasePenalty, hready.takeFrame (by decide) (by decide) (by decide)]
  rw [← hinv.received_nonIdle .supervision (by decide : Source.s5 ≠ .s7), ← hstill]
  refine ⟨fun h => ?notRaised, fun h hs => ?tooEarly, fun h hs => ?ok⟩
  case notRaised =>
    rw [State.actReleasePenalty_of_refused (Arbiter.releasePenaltyResult_notRaised h) (by decide)]
    exact State.reply_replied _ _ _ _ _
  case tooEarly =>
    rw [State.actReleasePenalty_of_refused (Arbiter.releasePenaltyResult_tooEarly h hs) (by decide)]
    exact State.reply_replied _ _ _ _ _
  case ok =>
    have hok := hinv'.releasePenalty_ok h hs
    rwa [State.received_cfg, State.received_time] at hok

end Sys2Proof.Machine

/-! SUPPORT. The blend period (R31 to R51): the water-fill, the split of the air requirement, what the ten stages leave in the ledger, and the PERIOD order; the obligations O37, O38 and O40. -/

namespace Sys2Proof.Machine

/-! ### Records of axles and trucks -/

theorem PerAxle.ext_get {α : Type} {x y : PerAxle α} (h : ∀ i, x.get i = y.get i) : x = y := by
  cases x
  cases y
  simp only [PerAxle.mk.injEq]
  exact ⟨h .a1, h .a2, h .a3, h .a4, h .a5, h .a6⟩

/-- Two records that agree at every port but the traction port. -/
theorem PerPort.eq_with_traction {α : Type} {x y : PerPort α} (h : ∀ q, q ≠ .traction → x.get q = y.get q) :
    x = { y with traction := x.traction } := by
  have hcab := h .cab (by decide)
  have hsupervision := h .supervision (by decide)
  have hservice := h .service (by decide)
  cases x
  simp only [PerPort.get] at hcab hsupervision hservice
  rw [hcab, hsupervision, hservice]

theorem Axle.mem_all (i : Axle) : i ∈ Axle.all := by cases i <;> decide

theorem Truck.exists_iff {P : Truck → Prop} : (∃ k, P k) ↔ P .a ∨ P .b where
  mp := by
    rintro ⟨_ | _, h⟩
    · exact .inl h
    · exact .inr h
  mpr h := h.elim (fun ha => ⟨.a, ha⟩) fun hb => ⟨.b, hb⟩

/-! ### Numbers in a reply's data -/

/-- The number of a two-byte field is the number sent, modulo 65536 (R178). -/
theorem numberOf_two (n : Nat) : numberOf (two n) = n % 65536 := by
  simp only [numberOf, two, bytes16, List.foldl_cons, List.foldl_nil, BitVec.extractLsb'_toNat, BitVec.toNat_ofNat,
    Nat.shiftRight_eq_div_pow]
  omega

/-- A two-byte field that stands after a known beginning is read at that beginning's length. -/
theorem numberAt_two_of_prefix {head bs : List Byte} {n : Nat} (h : head ++ two n <+: bs) :
    numberAt bs head.length 2 = n % 65536 := by
  obtain ⟨rest, rfl⟩ := h
  have hfield : (two n ++ rest).take 2 = two n := rfl
  rw [numberAt, List.append_assoc, List.drop_left, hfield, numberOf_two]

/-- The first 20 bytes of the ledger summary: authority, governor and its stamp, stack, and the four efforts of the record (section 8.9). -/
def summaryHead (s : State) : List Byte :=
  [byteOf s.ledger.demand.authority, sourceByte s.ledger.demand.governor] ++ four (governorStamp s.arbiter)
  ++ stackBytes s.arbiter.stack ++ two s.ledger.demand.blended ++ two s.ledger.demand.airFloor
  ++ two s.ledger.demand.electricOnly ++ two s.ledger.demand.emergencyEffort

theorem length_stackBytes (stack : List Source) : (stackBytes stack).length = 6 := by
  simp only [stackBytes, List.length_take, List.length_append, List.length_replicate]
  omega

theorem length_summaryHead (s : State) : (summaryHead s).length = 20 := by
  simp only [summaryHead, four, bytes32, two, bytes16, List.length_append, List.length_cons, List.length_nil,
    length_stackBytes]

theorem summaryHead_prefix (s : State) :
    (summaryHead s ++ two s.ledger.unmet) ++ two s.ledger.unserved <+: ledgerSummary s := by
  simp only [summaryHead, ledgerSummary, List.append_assoc, List.prefix_append_right_inj, List.prefix_append]

/-- The electric unmet stands at byte 20 of the ledger summary (section 8.9). -/
theorem ledgerSummary_unmet (s : State) : numberAt (ledgerSummary s) 20 2 = s.ledger.unmet % 65536 := by
  rw [← length_summaryHead s]
  exact numberAt_two_of_prefix ((List.prefix_append _ _).trans (summaryHead_prefix s))

/-- The unserved air stands at byte 22 of the ledger summary (section 8.9). -/
theorem ledgerSummary_unserved (s : State) : numberAt (ledgerSummary s) 22 2 = s.ledger.unserved % 65536 := by
  have hlen : (summaryHead s ++ two s.ledger.unmet).length = 22 := by
    rw [List.length_append, length_summaryHead]
    rfl
  rw [← hlen]
  exact numberAt_two_of_prefix (summaryHead_prefix s)

/-! ### The split of the air requirement (R42) -/

section
variable (l : Ledger)

theorem Ledger.stage7_split_b :
    l.stage7.split.b = min l.capAir.b (l.airReq - min l.capAir.a (l.airReq - l.airReq / 2)) := rfl

theorem Ledger.stage7_split_a : l.stage7.split.a = min l.capAir.a (l.airReq - l.stage7.split.b) := rfl

theorem Ledger.stage7_unserved : l.stage7.unserved = l.airReq - l.stage7.split.a - l.stage7.split.b := rfl

/-- The trucks together take what they can, up to the requirement. -/
theorem Ledger.stage7_split_sum :
    l.stage7.split.a + l.stage7.split.b = min l.airReq (l.capAir.a + l.capAir.b) := by
  rw [l.stage7_split_a, l.stage7_split_b]
  omega

theorem Ledger.stage7_split_le (k : Truck) : l.stage7.split.get k ≤ l.capAir.get k := by
  cases k
  · exact Nat.min_le_left _ _
  · exact Nat.min_le_left _ _

/-- What the trucks do not take is the unserved air. -/
theorem Ledger.stage7_split_unserved :
    l.stage7.split.a + l.stage7.split.b + l.stage7.unserved = l.airReq := by
  have hle : l.stage7.split.a + l.stage7.split.b ≤ l.airReq := l.stage7_split_sum ▸ Nat.min_le_left _ _
  rw [l.stage7_unserved]
  omega

/-- Two trucks of one capacity above half the requirement share it, the odd unit at truck A. -/
theorem Ledger.stage7_split_even (hcap : l.capAir.a = l.capAir.b) (hq : l.airReq < 2 * l.capAir.a) :
    l.stage7.split.a = l.airReq - l.airReq / 2 ∧ l.stage7.split.b = l.airReq / 2 := by
  rw [l.stage7_split_a, l.stage7_split_b]
  omega

theorem Ledger.stage7_split_no_a (h : l.capAir.a = 0) :
    l.stage7.split.a = 0 ∧ l.stage7.split.b = min l.airReq l.capAir.b := by
  rw [l.stage7_split_a, l.stage7_split_b]
  omega

theorem Ledger.stage7_split_no_b (h : l.capAir.b = 0) :
    l.stage7.split.b = 0 ∧ l.stage7.split.a = min l.airReq l.capAir.a := by
  rw [l.stage7_split_a, l.stage7_split_b]
  omega

theorem Ledger.stage7_split_nothing (h : l.airReq = 0) : l.stage7.split = ⟨0, 0⟩ := by
  have hb : l.stage7.split.b = 0 := by rw [l.stage7_split_b, h]; omega
  have ha : l.stage7.split.a = 0 := by rw [l.stage7_split_a, h]; omega
  cases hs : l.stage7.split with
  | mk a b =>
    rw [hs] at ha hb
    rw [PerTruck.mk.injEq]
    exact ⟨ha, hb⟩

end

/-- Settles O40: the unserved air is found behind the summary's first 22 bytes, and each case of the split is a case of its two minima. -/
theorem airRequirementIsSplit : Obligations.AirRequirementIsSplit := by
  unfold Obligations.AirRequirementIsSplit
  exact ⟨ledgerSummary_unserved, fun l => ⟨l.stage7_split_b, l.stage7_split_a, rfl, l.stage7_split_sum,
    l.stage7_split_even, l.stage7_split_no_a, l.stage7_split_no_b, l.stage7_split_nothing⟩⟩

/-! ### No axle's target is above its cap (R38) -/

/-- The last pass gives an axle at most one unit more than the share. -/
theorem shareOut_le {share rest : Nat} {us : List (Axle × Nat)} {g : Axle × Nat} (hg : g ∈ shareOut share rest us) :
    g.2 ≤ share + 1 ∧ ∃ u ∈ us, u.1 = g.1 := by
  induction us generalizing rest with
  | nil => cases hg
  | cons u us ih =>
    rw [shareOut, List.mem_cons] at hg
    obtain rfl | hg := hg
    · exact ⟨by dsimp only; split <;> omega, u, List.mem_cons_self, rfl⟩
    · obtain ⟨hle, v, hv, hvg⟩ := ih hg
      exact ⟨hle, v, List.mem_cons_of_mem u hv, hvg⟩

/-- Each pass gives an axle its cap, or a share that all the unsettled caps are above. -/
theorem fillPasses_le {fuel t : Nat} {us : List (Axle × Nat)} {g : Axle × Nat} (hg : g ∈ fillPasses fuel t us) :
    ∃ u ∈ us, u.1 = g.1 ∧ g.2 ≤ u.2 := by
  induction fuel generalizing t us with
  | zero => cases hg
  | succ fuel ih =>
    rw [fillPasses] at hg
    split at hg
    case isTrue => cases hg
    case isFalse =>
      dsimp only at hg
      split at hg
      case isTrue hnone =>
        obtain ⟨hle, u, hu, hug⟩ := shareOut_le hg
        have habove : t / us.length < u.2 := by
          have hout := List.filter_eq_nil_iff.mp (List.length_eq_zero_iff.mp hnone) u hu
          exact Nat.not_le.mp fun hin => hout (decide_eq_true hin)
        exact ⟨u, hu, hug, Nat.le_trans hle habove⟩
      case isFalse =>
        obtain hg | hg := List.mem_append.mp hg
        · exact ⟨g, (List.mem_filter.mp hg).1, rfl, Nat.le_refl _⟩
        · obtain ⟨u, hu, hug⟩ := ih hg
          exact ⟨u, (List.mem_filter.mp hu).1, hug⟩

theorem givenTo_le {i : Axle} {n : Nat} {given : List (Axle × Nat)} (h : ∀ g ∈ given, g.1 = i → g.2 ≤ n) :
    givenTo i given ≤ n := by
  unfold givenTo
  split
  next g hg =>
    have hfound := List.find?_some hg
    exact h g (List.mem_of_find?_eq_some hg) (of_decide_eq_true hfound)
  next => exact Nat.zero_le n

theorem waterFill_le (target : Nat) (cap : PerAxle Nat) (i : Axle) : (waterFill target cap).get i ≤ cap.get i := by
  rw [waterFill, PerAxle.get_ofFn]
  refine givenTo_le fun g hg hgi => ?_
  obtain ⟨u, hu, hug, hle⟩ := fillPasses_le hg
  obtain ⟨j, -, rfl⟩ := List.mem_map.mp hu
  have hji : j = i := hug.trans hgi
  exact hji ▸ hle

/-! ### The values in use (R34, R35) -/

section
variable {x : BlendInputs} {withdrawn : Bool} {i : Axle}

theorem axleInUse_iff : axleInUse x withdrawn i = true ↔
    x.tractionFresh = true ∧ withdrawn = false ∧ x.capability.cutOut.get i = false := by
  simp only [axleInUse, Bool.and_eq_true, Bool.not_eq_true', and_assoc]

theorem usedValue_of_inUse (h : axleInUse x withdrawn i = true) (v : Word16) :
    usedValue x withdrawn i v = min v.toNat 1000 := if_pos h

theorem usedValue_of_not_inUse (h : axleInUse x withdrawn i ≠ true) (v : Word16) :
    usedValue x withdrawn i v = 0 := if_neg h

theorem reportClamped_iff : reportClamped x withdrawn = true ↔
    ∃ i, x.tractionFresh = true ∧ withdrawn = false ∧ x.capability.cutOut.get i = false
      ∧ (maxAxleEffort < (x.capability.axles.get i).available.toNat
        ∨ maxAxleEffort < (x.capability.axles.get i).achieved.toNat) := by
  simp only [reportClamped, List.any_eq_true, Axle.mem_all, true_and, Bool.and_eq_true, axleInUse_iff, Bool.or_eq_true,
    decide_eq_true_eq, and_assoc]

end

/-! ### The commands (R39, R50) -/

section
variable {cfg : ConfigSet} {stop : Bool} {tgt cap cmd : Nat}

/-- A command moves toward a target under the cap, and no move passes the cap. -/
theorem rampCommand_le (h : tgt ≤ cap) : rampCommand cfg stop tgt cap cmd ≤ cap := by
  unfold rampCommand
  split
  case isTrue => exact Nat.zero_le cap
  case isFalse =>
    split
    case isTrue => exact Nat.le_trans (Nat.min_le_left _ _) h
    case isFalse =>
      split
      case isTrue =>
        split
        case isTrue => exact h
        case isFalse => omega
      case isFalse => omega

theorem rampCommand_of_stop (h : stop = true) : rampCommand cfg stop tgt cap cmd = 0 := if_pos h

/-- The rows of R39, with the stop under emergency or without permission. -/
theorem rampCommand_eq (emergency permitted : Bool) : rampCommand cfg (emergency || !permitted) tgt cap cmd =
    if emergency = true ∨ permitted = false then 0
    else if cmd < tgt then min tgt (cmd + cfg.eRise)
    else if tgt < cmd then (if cap < cmd then tgt else max tgt (cmd - cfg.eFall))
    else cmd := by
  cases emergency <;> cases permitted <;> rfl

end

/-- Commands within the limits, and 0 under emergency, pass the guard of an order as they are (R50). -/
theorem guardedCommands_eq_self {emergency : Bool} {limits cmd : PerAxle Nat}
    (hzero : emergency = true → ∀ i, cmd.get i = 0) (hle : ∀ i, cmd.get i ≤ limits.get i) :
    guardedCommands emergency limits cmd = cmd := by
  refine PerAxle.ext_get fun i => ?_
  rw [guardedCommands, PerAxle.get_ofFn]
  split
  case isTrue h => exact (hzero h i).symm
  case isFalse => exact Nat.min_eq_left (hle i)

/-! ### An order handed to the traction port (R163) -/

section
variable (ps : Ports) (o : EffortOrder)

/-- The order stands behind the frame in transmission and before the replies, in the place of an older one that waited. -/
theorem Ports.handOrder_line : (ps.handOrder o).line .traction =
    ps.port.traction.sending.toList ++ [o.frame] ++ ps.port.traction.replies := by
  rw [Ports.handOrder, Ports.line_start]
  rfl

theorem Ports.handOrder_assembly :
    (ps.handOrder o).port.traction.assembly = ps.port.traction.assembly := by
  obtain ⟨-, hassembly, -, -⟩ := Ports.start_rest { ps with order := some o } .traction
  exact hassembly

/-- Nothing but the traction port and the order position changes. -/
theorem Ports.handOrder_rest : ps.handOrder o =
    { ps with
      port := { ps.port with traction := (ps.handOrder o).port.traction }, order := (ps.handOrder o).order } := by
  obtain ⟨hothers, -, -, hrest⟩ := Ports.start_rest { ps with order := some o } .traction
  have hport : (ps.handOrder o).port = { ps.port with traction := (ps.handOrder o).port.traction } :=
    PerPort.eq_with_traction hothers
  rw [← hport]
  exact hrest

end

/-! ### The stages of a period, and what the later ones leave (R31) -/

/-- The ledger after stages 1 to 7: the electric brake, and the air requirement with its split. -/
def Ledger.throughSplit (cfg : ConfigSet) (x : BlendInputs) (l : Ledger) : Ledger :=
  Ledger.stage7 (Ledger.stage6 cfg (Ledger.stage4 cfg (Ledger.stage1 x (Ledger.begin x l)).stage2.stage3).stage5)

section
variable (cfg : ConfigSet) (x : BlendInputs) (l : Ledger)

theorem Ledger.stage9_of_emergency (h : l.demand.emergency = true) : l.stage9 cfg =
    { l with
      pressure := .ofFn fun _ => cfg.pEmer
      airForce := .ofFn fun k => min (cylinderForce cfg k cfg.pEmer) 6000
      clamps := { l.clamps with range :=
        l.clamps.range || 6000 < cylinderForce cfg .a cfg.pEmer || 6000 < cylinderForce cfg .b cfg.pEmer } } :=
  if_pos h

theorem Ledger.stage9_of_no_emergency (h : l.demand.emergency = false) : l.stage9 cfg =
    { l with
      pressure := .ofFn fun k => min (forcePressure cfg k (l.airForce.get k)) cfg.pCap
      clamps := { l.clamps with pressure := l.clamps.pressure
        || cfg.pCap < forcePressure cfg .a (l.airForce.get .a)
        || cfg.pCap < forcePressure cfg .b (l.airForce.get .b) } } :=
  if_neg (by rw [h]; exact Bool.false_ne_true)

theorem Ledger.stage9_rest : l.stage9 cfg =
    { l with
      pressure := (l.stage9 cfg).pressure, airForce := (l.stage9 cfg).airForce, clamps := (l.stage9 cfg).clamps } := by
  unfold Ledger.stage9
  split <;> rfl

theorem Ledger.deficitSpell_of_le (h : l.deficit ≤ cfg.deficitThreshold) :
    l.deficitSpell cfg = { l with deficitTimer := 0, deficitFlag := false } := if_neg (Nat.not_lt.mpr h)

theorem Ledger.deficitSpell_of_lt (h : cfg.deficitThreshold < l.deficit) : l.deficitSpell cfg =
    { l with
      deficitTimer := min (l.deficitTimer + 20) cfg.deficitTimeMs
      deficitFlag := l.deficitFlag || min (l.deficitTimer + 20) cfg.deficitTimeMs = cfg.deficitTimeMs } := if_pos h

theorem Ledger.deficitSpell_rest : l.deficitSpell cfg =
    { l with
      deficitTimer := (l.deficitSpell cfg).deficitTimer, deficitFlag := (l.deficitSpell cfg).deficitFlag } := by
  unfold Ledger.deficitSpell
  split <;> rfl

theorem Ledger.deficitSpell_deficit : (l.deficitSpell cfg).deficit = l.deficit := by
  rw [Ledger.deficitSpell_rest]

theorem Ledger.stage10_rest : l.stage10 cfg x =
    { l with
      measured := x.measured
      healthy := x.healthy
      truckForce := .ofFn fun k => min (measuredForce cfg x k) 6000
      deficit := (l.stage10 cfg x).deficit
      deficitTimer := (l.stage10 cfg x).deficitTimer
      deficitFlag := (l.stage10 cfg x).deficitFlag
      clamps := { l.clamps with range :=
        l.clamps.range || 6000 < measuredForce cfg x .a || 6000 < measuredForce cfg x .b } } := by
  rw [Ledger.stage10, Ledger.deficitSpell_rest]

end

/-! ### Forces and pressures (R43, R44, R46) -/

section
variable {cfg : ConfigSet} {k : Truck} {force : Nat}

theorem min_forcePressure : min (forcePressure cfg k force) cfg.pCap =
    if force = 0 then 0
    else min cfg.pCap (cfg.pReturn + (force * 256 + cfg.truckGain.get k - 1) / cfg.truckGain.get k) := by
  unfold forcePressure ceilDiv
  split
  · exact Nat.zero_min _
  · exact Nat.min_comm _ _

theorem pCap_lt_forcePressure : cfg.pCap < forcePressure cfg k force ↔
    force ≠ 0 ∧ cfg.pCap < cfg.pReturn + (force * 256 + cfg.truckGain.get k - 1) / cfg.truckGain.get k := by
  unfold forcePressure ceilDiv
  split
  case isTrue h => exact ⟨fun hlt => absurd hlt (Nat.not_lt_zero _), fun hf => absurd h hf.1⟩
  case isFalse h => exact (and_iff_right h).symm

theorem measuredForce_of_healthy {x : BlendInputs} (h : x.healthy.get k = true) :
    measuredForce cfg x k = (x.measured.get k - cfg.pReturn) * cfg.truckGain.get k / 256 := if_pos h

theorem measuredForce_of_not_healthy {x : BlendInputs} (h : x.healthy.get k ≠ true) :
    measuredForce cfg x k = 0 := if_neg h

theorem lt_measuredForce_iff {x : BlendInputs} : 6000 < measuredForce cfg x k ↔
    x.healthy.get k = true ∧ 6000 < (x.measured.get k - cfg.pReturn) * cfg.truckGain.get k / 256 := by
  by_cases h : x.healthy.get k = true
  · rw [measuredForce_of_healthy h, and_iff_right h]
  · rw [measuredForce_of_not_healthy h]
    exact ⟨fun hlt => absurd hlt (Nat.not_lt_zero _), fun hm => absurd hm.1 h⟩

end

/-! ### The ledger after a period -/

section
variable (cfg : ConfigSet) (x : BlendInputs) (l : Ledger)

theorem Ledger.allocate_eq : l.allocate cfg x =
    (((l.throughSplit cfg x).stage8 cfg).stage9 cfg).stage10 cfg x := rfl

/-- Stages 8 to 10 write the air forces and what follows them, and leave what stages 1 to 7 wrote (R43 to R48). -/
theorem Ledger.allocate_keeps : l.allocate cfg x =
    { l.throughSplit cfg x with
      airForce := (l.allocate cfg x).airForce
      pressure := (l.allocate cfg x).pressure
      measured := x.measured
      healthy := x.healthy
      truckForce := .ofFn fun k => min (measuredForce cfg x k) 6000
      deficit := (l.allocate cfg x).deficit
      deficitTimer := (l.allocate cfg x).deficitTimer
      deficitFlag := (l.allocate cfg x).deficitFlag
      clamps := (l.allocate cfg x).clamps } := by
  rw [Ledger.allocate_eq, Ledger.stage10_rest, Ledger.stage9_rest]
  rfl

theorem Ledger.allocate_demand : (l.allocate cfg x).demand = x.record := by
  rw [Ledger.allocate_keeps]
  rfl

theorem Ledger.allocate_withdrawn : (l.allocate cfg x).withdrawn = l.withdrawn := by
  rw [Ledger.allocate_keeps]
  rfl

theorem Ledger.allocate_pendingInput : (l.allocate cfg x).pendingInput = false := by
  rw [Ledger.allocate_keeps]
  rfl

theorem Ledger.allocate_avail (i : Axle) :
    (l.allocate cfg x).avail.get i = usedValue x l.withdrawn i (x.capability.axles.get i).available := by
  rw [Ledger.allocate_keeps]
  exact PerAxle.get_ofFn _ i

theorem Ledger.allocate_ach (i : Axle) :
    (l.allocate cfg x).ach.get i = usedValue x l.withdrawn i (x.capability.axles.get i).achieved := by
  rw [Ledger.allocate_keeps]
  exact PerAxle.get_ofFn _ i

theorem Ledger.allocate_lim : (l.allocate cfg x).lim = x.limits := by
  rw [Ledger.allocate_keeps]
  rfl

theorem Ledger.allocate_cap (i : Axle) :
    (l.allocate cfg x).cap.get i = min ((l.allocate cfg x).avail.get i) ((l.allocate cfg x).lim.get i) := by
  rw [Ledger.allocate_keeps]
  exact PerAxle.get_ofFn _ i

theorem Ledger.allocate_target : (l.allocate cfg x).target =
    if x.record.electricPermitted = true ∧ x.record.emergency = false then
      min (max x.record.blended x.record.electricOnly) (l.allocate cfg x).cap.sum
    else 0 := by
  have hstage2 : (l.allocate cfg x).target =
      if (!x.record.electricPermitted || x.record.emergency) = true then 0
      else min (max x.record.blended x.record.electricOnly) (l.allocate cfg x).cap.sum := by
    rw [Ledger.allocate_keeps]
    rfl
  rw [hstage2]
  cases x.record.electricPermitted <;> cases x.record.emergency <;> rfl

theorem Ledger.allocate_unmet : (l.allocate cfg x).unmet =
    max x.record.blended x.record.electricOnly - (l.allocate cfg x).target := by
  rw [Ledger.allocate_keeps]
  rfl

theorem Ledger.allocate_tgt :
    (l.allocate cfg x).tgt = waterFill (l.allocate cfg x).target (l.allocate cfg x).cap := by
  rw [Ledger.allocate_keeps]
  rfl

theorem Ledger.allocate_tgt_le (i : Axle) : (l.allocate cfg x).tgt.get i ≤ (l.allocate cfg x).cap.get i := by
  rw [Ledger.allocate_tgt]
  exact waterFill_le _ _ i

theorem Ledger.allocate_cmd (i : Axle) : (l.allocate cfg x).cmd.get i =
    rampCommand cfg (x.record.emergency || !x.record.electricPermitted) ((l.allocate cfg x).tgt.get i)
      ((l.allocate cfg x).cap.get i) (l.cmd.get i) := by
  rw [Ledger.allocate_keeps]
  exact PerAxle.get_ofFn _ i

theorem Ledger.allocate_cmd_le (i : Axle) : (l.allocate cfg x).cmd.get i ≤ (l.allocate cfg x).cap.get i := by
  rw [Ledger.allocate_cmd]
  exact rampCommand_le (l.allocate_tgt_le cfg x i)

/-- The guard of the PERIOD order finds every command at or below its limit already (R39, R50). -/
theorem Ledger.allocate_guarded : guardedCommands x.record.emergency x.limits (l.allocate cfg x).cmd =
    (l.allocate cfg x).cmd := by
  refine guardedCommands_eq_self (fun h i => ?_) fun i => Nat.le_trans (l.allocate_cmd_le cfg x i) ?_
  · rw [Ledger.allocate_cmd, rampCommand_of_stop (by rw [h, Bool.true_or])]
  · rw [Ledger.allocate_cap, Ledger.allocate_lim]
    exact Nat.min_le_right _ _

theorem Ledger.allocate_sumAch : (l.allocate cfg x).sumAch = (l.allocate cfg x).ach.sum := by
  rw [Ledger.allocate_keeps]
  rfl

theorem Ledger.allocate_residual_throughSplit :
    (l.allocate cfg x).residual = (l.throughSplit cfg x).residual := by
  rw [Ledger.allocate_keeps]
  rfl

/-- The blended residual of the period (R40). -/
theorem Ledger.allocate_residual : (l.allocate cfg x).residual =
    if x.record.bail = true then 0 else x.record.blended - (l.allocate cfg x).sumAch := by
  rw [Ledger.residual, Ledger.allocate_demand]

theorem Ledger.allocate_airReq : (l.allocate cfg x).airReq =
    min (max x.record.airFloor (l.allocate cfg x).residual) 6000 := by
  rw [Ledger.allocate_keeps]
  rfl

theorem Ledger.allocate_capAir (k : Truck) : (l.allocate cfg x).capAir.get k =
    min ((l.allocate cfg x).adhesion k) (cylinderForce cfg k cfg.pCap) := by
  rw [Ledger.allocate_keeps]
  exact PerTruck.get_ofFn _ k

theorem Ledger.allocate_split_le (k : Truck) : (l.allocate cfg x).split.get k ≤ (l.allocate cfg x).capAir.get k := by
  rw [Ledger.allocate_keeps]
  exact Ledger.stage7_split_le _ k

theorem Ledger.allocate_split_b : (l.allocate cfg x).split.b =
    min (l.allocate cfg x).capAir.b ((l.allocate cfg x).airReq
      - min (l.allocate cfg x).capAir.a ((l.allocate cfg x).airReq - (l.allocate cfg x).airReq / 2)) := by
  rw [Ledger.allocate_keeps]
  exact Ledger.stage7_split_b _

theorem Ledger.allocate_split_a : (l.allocate cfg x).split.a =
    min (l.allocate cfg x).capAir.a ((l.allocate cfg x).airReq - (l.allocate cfg x).split.b) := by
  rw [Ledger.allocate_keeps]
  exact Ledger.stage7_split_a _

theorem Ledger.allocate_split_unserved : (l.allocate cfg x).split.a + (l.allocate cfg x).split.b
    + (l.allocate cfg x).unserved = (l.allocate cfg x).airReq := by
  rw [Ledger.allocate_keeps]
  exact Ledger.stage7_split_unserved _

theorem Ledger.allocate_measured : (l.allocate cfg x).measured = x.measured := by
  rw [Ledger.allocate_keeps]

theorem Ledger.allocate_healthy : (l.allocate cfg x).healthy = x.healthy := by
  rw [Ledger.allocate_keeps]

theorem Ledger.allocate_truckForce (k : Truck) :
    (l.allocate cfg x).truckForce.get k = min (measuredForce cfg x k) 6000 := by
  rw [Ledger.allocate_keeps]
  exact PerTruck.get_ofFn _ k

/-! #### Under emergency (R45) -/

theorem Ledger.allocate_airForce_of_emergency (h : x.record.emergency = true) (k : Truck) :
    (l.allocate cfg x).pressure.get k = cfg.pEmer
    ∧ (l.allocate cfg x).airForce.get k = min (cylinderForce cfg k cfg.pEmer) 6000 := by
  rw [Ledger.allocate_eq, Ledger.stage10_rest, Ledger.stage9_of_emergency _ _ h]
  exact ⟨PerTruck.get_ofFn _ k, PerTruck.get_ofFn _ k⟩

theorem Ledger.allocate_clamps_of_emergency (h : x.record.emergency = true) : (l.allocate cfg x).clamps =
    { input := l.pendingInput || reportClamped x l.withdrawn
      pressure := false
      range := 6000 < max x.record.airFloor (l.allocate cfg x).residual
        || 6000 < cylinderForce cfg .a cfg.pEmer || 6000 < cylinderForce cfg .b cfg.pEmer
        || 6000 < measuredForce cfg x .a || 6000 < measuredForce cfg x .b } := by
  rw [Ledger.allocate_residual_throughSplit, Ledger.allocate_eq, Ledger.stage10_rest, Ledger.stage9_of_emergency _ _ h]
  rfl

/-! #### Without emergency (R43, R44) -/

theorem Ledger.allocate_airForce_of_no_emergency (h : x.record.emergency = false) (k : Truck) :
    (l.allocate cfg x).pressure.get k = min (forcePressure cfg k ((l.allocate cfg x).airForce.get k)) cfg.pCap
    ∧ (l.allocate cfg x).airForce.get k =
      rampForce cfg x.record.profile ((l.allocate cfg x).split.get k) (l.airForce.get k) := by
  rw [Ledger.allocate_eq, Ledger.stage10_rest, Ledger.stage9_of_no_emergency _ _ h]
  exact ⟨PerTruck.get_ofFn _ k, PerTruck.get_ofFn _ k⟩

theorem Ledger.allocate_clamps_of_no_emergency (h : x.record.emergency = false) : (l.allocate cfg x).clamps =
    { input := l.pendingInput || reportClamped x l.withdrawn
      pressure := cfg.pCap < forcePressure cfg .a ((l.allocate cfg x).airForce.get .a)
        || cfg.pCap < forcePressure cfg .b ((l.allocate cfg x).airForce.get .b)
      range := 6000 < max x.record.airFloor (l.allocate cfg x).residual
        || 6000 < measuredForce cfg x .a || 6000 < measuredForce cfg x .b } := by
  rw [Ledger.allocate_residual_throughSplit, Ledger.allocate_eq, Ledger.stage10_rest,
    Ledger.stage9_of_no_emergency _ _ h]
  rfl

/-! #### The clamp flags (R49) -/

theorem Ledger.allocate_input_iff : (l.allocate cfg x).clamps.input = true ↔
    l.pendingInput = true ∨ reportClamped x l.withdrawn = true := by
  rw [← Bool.or_eq_true]
  cases h : x.record.emergency
  · rw [Ledger.allocate_clamps_of_no_emergency _ _ _ h]
  · rw [Ledger.allocate_clamps_of_emergency _ _ _ h]

theorem Ledger.allocate_range_iff : (l.allocate cfg x).clamps.range = true ↔
    6000 < max x.record.airFloor (l.allocate cfg x).residual
    ∨ ∃ k, (x.record.emergency = true ∧ 6000 < cylinderForce cfg k cfg.pEmer) ∨ 6000 < measuredForce cfg x k := by
  rw [Truck.exists_iff, or_or_or_comm]
  cases h : x.record.emergency
  · rw [Ledger.allocate_clamps_of_no_emergency _ _ _ h]
    simp only [Bool.or_eq_true, decide_eq_true_eq, Bool.false_eq_true, false_and, or_self, false_or, or_assoc]
  · rw [Ledger.allocate_clamps_of_emergency _ _ _ h]
    simp only [Bool.or_eq_true, decide_eq_true_eq, true_and, or_assoc]

theorem Ledger.allocate_pressure_iff : (l.allocate cfg x).clamps.pressure = true ↔
    x.record.emergency = false ∧ ∃ k, cfg.pCap < forcePressure cfg k ((l.allocate cfg x).airForce.get k) := by
  rw [Truck.exists_iff]
  cases h : x.record.emergency
  · rw [Ledger.allocate_clamps_of_no_emergency _ _ _ h]
    simp only [Bool.or_eq_true, decide_eq_true_eq, true_and]
  · rw [Ledger.allocate_clamps_of_emergency _ _ _ h]
    simp only [Bool.false_eq_true, Bool.true_eq_false, false_and]

/-! #### The deficit and its spell (R47, R48) -/

theorem Ledger.allocate_deficit : (l.allocate cfg x).deficit = (l.allocate cfg x).deficitNow := by
  rw [Ledger.allocate_eq, Ledger.stage10, Ledger.deficitSpell_rest]
  rfl

/-- The last step of a period is the spell of its deficit, from the timer and the flag before the period. -/
theorem Ledger.allocate_spell : ∃ m : Ledger, l.allocate cfg x = m.deficitSpell cfg
    ∧ m.deficitTimer = l.deficitTimer ∧ m.deficitFlag = l.deficitFlag := by
  refine ⟨_, rfl, ?_, ?_⟩ <;> rw [Ledger.stage9_rest] <;> rfl

theorem Ledger.allocate_spell_of_le (h : (l.allocate cfg x).deficit ≤ cfg.deficitThreshold) :
    (l.allocate cfg x).deficitTimer = 0 ∧ (l.allocate cfg x).deficitFlag = false := by
  obtain ⟨m, hm, -, -⟩ := l.allocate_spell cfg x
  rw [hm, Ledger.deficitSpell_deficit] at h
  rw [hm, Ledger.deficitSpell_of_le _ _ h]
  exact ⟨rfl, rfl⟩

theorem Ledger.allocate_spell_of_lt (h : cfg.deficitThreshold < (l.allocate cfg x).deficit) :
    (l.allocate cfg x).deficitTimer = min (l.deficitTimer + 20) cfg.deficitTimeMs
    ∧ (l.allocate cfg x).deficitFlag =
      (l.deficitFlag || decide ((l.allocate cfg x).deficitTimer = cfg.deficitTimeMs)) := by
  obtain ⟨m, hm, htimer, hflag⟩ := l.allocate_spell cfg x
  rw [hm, Ledger.deficitSpell_deficit] at h
  rw [hm, Ledger.deficitSpell_of_lt _ _ h, ← htimer, ← hflag]
  exact ⟨rfl, rfl⟩

end

/-- EFFORT_DEFICIT is handed on where the flag sets (R48). -/
theorem deficitTrigger_arrivals (before after : Ledger) : (deficitTrigger before after).map Instr.triggerArrival =
    if after.deficitFlag = true ∧ before.deficitFlag = false then
      [.triggerArrival (.effortDeficit after.deficit)] else [] := by
  unfold deficitTrigger
  cases after.deficitFlag <;> cases before.deficitFlag <;> rfl

/-! ### The period as an event of the part (R31, R51) -/

theorem exec_blendPeriod {s : State} (h : s.powered = true) : exec .blendPeriod s = .next s.blendPeriod := powered_on h

section
variable (s : State)

/-- The PERIOD order leaves the commands as stage 4 built them. -/
theorem State.blendPeriod_ledger : s.blendPeriod.ledger =
    { s.ledger.allocate s.cfg s.blendInputs with lastReason := .period } := by
  have hordered : s.blendPeriod.ledger =
      (s.ledger.allocate s.cfg s.blendInputs).ordered s.blendInputs.record.emergency s.blendInputs.limits .period := rfl
  rw [hordered, Ledger.ordered, Ledger.allocate_guarded]

theorem State.blendPeriod_ports : s.blendPeriod.ports = s.ports.handOrder ⟨s.blendPeriod.ledger.cmd, .period⟩ := rfl

theorem State.blendPeriod_deliveries : s.blendPeriod.deliveries =
    s.deliveries ++ (deficitTrigger s.ledger (s.ledger.allocate s.cfg s.blendInputs)).map .triggerArrival := rfl

theorem State.blendPeriod_rest : s.blendPeriod =
    { s with
      ledger := s.blendPeriod.ledger, deliveries := s.blendPeriod.deliveries
      timers := { s.timers with blend := s.time }
      ports := { s.ports with
        port := { s.ports.port with traction := s.blendPeriod.ports.port.traction }
        order := s.blendPeriod.ports.order } } := by
  have hports := s.ports.handOrder_rest ⟨s.blendPeriod.ledger.cmd, .period⟩
  rw [← State.blendPeriod_ports] at hports
  rw [← hports]
  rfl

/-- An axle's values are in use with a FRESH traction link, while electric is not withdrawn and the axle not cut out (R34). -/
theorem State.blendInputs_inUse_iff (i : Axle) : axleInUse s.blendInputs s.ledger.withdrawn i = true ↔
    s.ports.link.traction.state = .fresh ∧ s.ledger.withdrawn = false ∧ s.ports.capability.cutOut.get i = false :=
  axleInUse_iff.trans (and_congr_left' decide_eq_true_iff)

theorem State.blendInputs_measured (k : Truck) : s.blendInputs.measured.get k = (s.loops.get k).measured := by
  cases k <;> rfl

theorem State.blendInputs_healthy (k : Truck) :
    s.blendInputs.healthy.get k = decide ((s.loops.get k).mode = .normal) := by
  cases k <;> rfl

theorem State.blendInputs_lt_measuredForce_iff (k : Truck) : 6000 < measuredForce s.cfg s.blendInputs k ↔
    (s.loops.get k).mode = .normal
      ∧ 6000 < ((s.loops.get k).measured - s.cfg.pReturn) * s.cfg.truckGain.get k / 256 := by
  rw [lt_measuredForce_iff, s.blendInputs_healthy, s.blendInputs_measured, decide_eq_true_iff]

theorem State.blendInputs_min_measuredForce (k : Truck) : min (measuredForce s.cfg s.blendInputs k) 6000 =
    if (s.loops.get k).mode = .normal then
      min 6000 (((s.loops.get k).measured - s.cfg.pReturn) * s.cfg.truckGain.get k / 256)
    else 0 := by
  have hhealthy := s.blendInputs_healthy k
  split
  case isTrue h =>
    rw [measuredForce_of_healthy (by rw [hhealthy, decide_eq_true h]), s.blendInputs_measured, Nat.min_comm]
  case isFalse h =>
    rw [measuredForce_of_not_healthy (fun hm => h (of_decide_eq_true (hhealthy.symm.trans hm))), Nat.zero_min]

end

/-! ### The obligations of a period -/

section
variable (s : State)

/-- What a period uses of an axle's report (R34). -/
theorem State.allocate_reported (i : Axle) :
    (s.ports.link.traction.state = .fresh ∧ s.ledger.withdrawn = false ∧ s.ports.capability.cutOut.get i = false →
      (s.ledger.allocate s.cfg s.blendInputs).avail.get i = min (s.ports.capability.axles.get i).available.toNat 1000
      ∧ (s.ledger.allocate s.cfg s.blendInputs).ach.get i
        = min (s.ports.capability.axles.get i).achieved.toNat 1000)
    ∧ (s.ports.link.traction.state ≠ .fresh ∨ s.ledger.withdrawn = true ∨ s.ports.capability.cutOut.get i = true →
      (s.ledger.allocate s.cfg s.blendInputs).avail.get i = 0
      ∧ (s.ledger.allocate s.cfg s.blendInputs).ach.get i = 0) := by
  rw [Ledger.allocate_avail, Ledger.allocate_ach]
  refine ⟨fun h => ?used, fun h => ?unused⟩
  case used =>
    have huse := (s.blendInputs_inUse_iff i).mpr h
    exact ⟨usedValue_of_inUse huse _, usedValue_of_inUse huse _⟩
  case unused =>
    have hno : axleInUse s.blendInputs s.ledger.withdrawn i ≠ true := by
      rw [ne_eq, s.blendInputs_inUse_iff]
      rintro ⟨hfresh, hstands, hin⟩
      rw [hstands, hin] at h
      rcases h with h | h | h
      · exact h hfresh
      · exact Bool.false_ne_true h
      · exact Bool.false_ne_true h
    exact ⟨usedValue_of_not_inUse hno _, usedValue_of_not_inUse hno _⟩

/-- The command of an axle, by the rows of R39. -/
theorem State.allocate_cmd (i : Axle) : (s.ledger.allocate s.cfg s.blendInputs).cmd.get i =
    if s.arbiter.record.emergency = true ∨ s.arbiter.record.electricPermitted = false then 0
    else if s.ledger.cmd.get i < (s.ledger.allocate s.cfg s.blendInputs).tgt.get i then
      min ((s.ledger.allocate s.cfg s.blendInputs).tgt.get i) (s.ledger.cmd.get i + s.cfg.eRise)
    else if (s.ledger.allocate s.cfg s.blendInputs).tgt.get i < s.ledger.cmd.get i then
      (if (s.ledger.allocate s.cfg s.blendInputs).cap.get i < s.ledger.cmd.get i then
        (s.ledger.allocate s.cfg s.blendInputs).tgt.get i
       else max ((s.ledger.allocate s.cfg s.blendInputs).tgt.get i) (s.ledger.cmd.get i - s.cfg.eFall))
    else s.ledger.cmd.get i := by
  rw [Ledger.allocate_cmd, rampCommand_eq]
  rfl

end

/-- Settles O37: stages 1 to 4 by their rules, the caps by the bound of the water-fill, and the order as the guard leaves it. -/
theorem blendPeriodElectric : Obligations.BlendPeriodElectric := by
  unfold Obligations.BlendPeriodElectric
  intro s hpow
  refine ⟨s.blendPeriod, exec_blendPeriod hpow, s.blendPeriod_rest, ?_⟩
  rw [ledgerSummary_unmet, State.blendPeriod_ports, Ports.handOrder_line, Ports.handOrder_assembly,
    State.blendPeriod_ledger]
  refine ⟨Ledger.allocate_demand _ _ _, Ledger.allocate_withdrawn _ _ _, fun i => ?axle, Ledger.allocate_target _ _ _,
    Ledger.allocate_unmet _ _ _, rfl, Ledger.allocate_tgt _ _ _, rfl, rfl, rfl⟩
  case axle =>
    have hlim : (s.ledger.allocate s.cfg s.blendInputs).lim.get i = (s.slide.axles.get i).lim := by
      rw [Ledger.allocate_lim]
      exact PerAxle.get_ofFn _ i
    obtain ⟨hused, hunused⟩ := s.allocate_reported i
    exact ⟨hused, hunused, hlim, Ledger.allocate_cap _ _ _ i, Ledger.allocate_tgt_le _ _ _ i, s.allocate_cmd i,
      Ledger.allocate_cmd_le _ _ _ i⟩

section
variable (s : State)

/-- The air requirement with the residual written out (R40). -/
theorem State.allocate_airReq : (s.ledger.allocate s.cfg s.blendInputs).airReq =
    min 6000 (max s.arbiter.record.airFloor (if s.arbiter.record.bail = true then 0
      else s.arbiter.record.blended - (s.ledger.allocate s.cfg s.blendInputs).sumAch)) := by
  rw [Ledger.allocate_airReq, Ledger.allocate_residual, Nat.min_comm]
  rfl

/-- The air force and pressure of a truck without emergency (R43, R44). -/
theorem State.allocate_air_of_no_emergency (h : s.arbiter.record.emergency = false) (k : Truck) :
    (s.ledger.allocate s.cfg s.blendInputs).pressure.get k =
      (if (s.ledger.allocate s.cfg s.blendInputs).airForce.get k = 0 then 0
       else min s.cfg.pCap (s.cfg.pReturn + ((s.ledger.allocate s.cfg s.blendInputs).airForce.get k * 256
          + s.cfg.truckGain.get k - 1) / s.cfg.truckGain.get k))
    ∧ (s.arbiter.record.profile = .service → (s.ledger.allocate s.cfg s.blendInputs).airForce.get k =
      if s.ledger.airForce.get k < (s.ledger.allocate s.cfg s.blendInputs).split.get k then
        min ((s.ledger.allocate s.cfg s.blendInputs).split.get k) (s.ledger.airForce.get k + s.cfg.airRateService)
      else max ((s.ledger.allocate s.cfg s.blendInputs).split.get k)
        (s.ledger.airForce.get k - s.cfg.airRateRelease)) := by
  obtain ⟨hpressure, hforce⟩ := s.ledger.allocate_airForce_of_no_emergency s.cfg s.blendInputs h k
  refine ⟨hpressure.trans min_forcePressure, fun hprofile => hforce.trans ?_⟩
  have hservice : s.blendInputs.record.profile = .service := hprofile
  rw [hservice]
  rfl

/-- The deficit with the owed efforts written out (R47). -/
theorem State.allocate_deficit : (s.ledger.allocate s.cfg s.blendInputs).deficit =
    if s.arbiter.record.emergency = true then 0
    else max ((if s.arbiter.record.bail = true then 0 else s.arbiter.record.blended)
        - ((s.ledger.allocate s.cfg s.blendInputs).sumAch
          + ((s.ledger.allocate s.cfg s.blendInputs).truckForce.a
            + (s.ledger.allocate s.cfg s.blendInputs).truckForce.b)))
      (s.arbiter.record.airFloor - ((s.ledger.allocate s.cfg s.blendInputs).truckForce.a
        + (s.ledger.allocate s.cfg s.blendInputs).truckForce.b)) := by
  rw [Ledger.allocate_deficit, Ledger.deficitNow, Ledger.allocate_demand]
  rfl

/-- The INPUT flag: the pending mark, or a value in use above its largest (R35, R49). -/
theorem State.allocate_input_iff : (s.ledger.allocate s.cfg s.blendInputs).clamps.input = true ↔
    s.ledger.pendingInput = true
    ∨ ∃ i, s.ports.link.traction.state = .fresh ∧ s.ledger.withdrawn = false
      ∧ s.ports.capability.cutOut.get i = false
      ∧ (1000 < (s.ports.capability.axles.get i).available.toNat
        ∨ 1000 < (s.ports.capability.axles.get i).achieved.toNat) := by
  have hfresh : s.blendInputs.tractionFresh = true ↔ s.ports.link.traction.state = .fresh := decide_eq_true_iff
  rw [Ledger.allocate_input_iff, reportClamped_iff, hfresh]
  rfl

/-- The RANGE flag: an air requirement, an emergency force or a measured force above its largest (R49). -/
theorem State.allocate_range_iff : (s.ledger.allocate s.cfg s.blendInputs).clamps.range = true ↔
    6000 < max s.arbiter.record.airFloor (if s.arbiter.record.bail = true then 0
      else s.arbiter.record.blended - (s.ledger.allocate s.cfg s.blendInputs).sumAch)
    ∨ ∃ k, (s.arbiter.record.emergency = true
        ∧ 6000 < (s.cfg.pEmer - s.cfg.pReturn) * s.cfg.truckGain.get k / 256)
      ∨ ((s.loops.get k).mode = .normal
        ∧ 6000 < ((s.loops.get k).measured - s.cfg.pReturn) * s.cfg.truckGain.get k / 256) := by
  rw [Ledger.allocate_range_iff, Ledger.allocate_residual]
  simp only [s.blendInputs_lt_measuredForce_iff]
  rfl

/-- The PRESSURE flag: a pressure target above `p_cap` before its clamp (R49). -/
theorem State.allocate_pressure_iff : (s.ledger.allocate s.cfg s.blendInputs).clamps.pressure = true ↔
    s.arbiter.record.emergency = false ∧ ∃ k, (s.ledger.allocate s.cfg s.blendInputs).airForce.get k ≠ 0
      ∧ s.cfg.pCap < s.cfg.pReturn + ((s.ledger.allocate s.cfg s.blendInputs).airForce.get k * 256
        + s.cfg.truckGain.get k - 1) / s.cfg.truckGain.get k := by
  rw [Ledger.allocate_pressure_iff]
  simp only [pCap_lt_forcePressure]
  rfl

end

/-- Settles O38: stages 5 to 10 by their rules, and the EFFORT_DEFICIT delivery by the spell of the deficit. -/
theorem blendPeriodAir : Obligations.BlendPeriodAir := by
  unfold Obligations.BlendPeriodAir
  intro s hpow
  refine ⟨s.blendPeriod, exec_blendPeriod hpow, ?_⟩
  rw [State.blendPeriod_deliveries, deficitTrigger_arrivals, State.blendPeriod_ledger]
  refine ⟨Ledger.allocate_sumAch _ _ _, s.allocate_airReq, fun k => ?capacity, Ledger.allocate_split_b _ _ _,
    Ledger.allocate_split_a _ _ _, Ledger.allocate_split_unserved _ _ _, fun h k => ?emergency,
    fun h k => s.allocate_air_of_no_emergency h k, fun k => ?measured, s.allocate_deficit,
    Ledger.allocate_pendingInput _ _ _, s.allocate_input_iff, s.allocate_range_iff, s.allocate_pressure_iff,
    fun h => ?within, fun h => ?beyond⟩
  case capacity => exact ⟨Ledger.allocate_capAir _ _ _ k, Ledger.allocate_split_le _ _ _ k⟩
  case emergency =>
    obtain ⟨hpressure, hforce⟩ := s.ledger.allocate_airForce_of_emergency s.cfg s.blendInputs h k
    exact ⟨hpressure, hforce.trans (Nat.min_comm _ _)⟩
  case measured =>
    refine ⟨?_, ?_, (Ledger.allocate_truckForce _ _ _ k).trans (s.blendInputs_min_measuredForce k)⟩
    · rw [Ledger.allocate_measured]
      exact s.blendInputs_measured k
    · rw [Ledger.allocate_healthy]
      exact s.blendInputs_healthy k
  case within =>
    obtain ⟨htimer, hflag⟩ := s.ledger.allocate_spell_of_le s.cfg s.blendInputs h
    refine ⟨htimer, hflag, ?_⟩
    rw [if_neg fun hset => Bool.false_ne_true (hflag.symm.trans hset.1), List.append_nil]
  case beyond =>
    obtain ⟨htimer, hflag⟩ := s.ledger.allocate_spell_of_lt s.cfg s.blendInputs h
    exact ⟨htimer, hflag, rfl⟩

end Sys2Proof.Machine

/-! SUPPORT. The slide state machine of an axle (R98 to R104): an equation for each way a window can go from each state, and the obligation O45. -/

namespace Sys2Proof.Machine

/-! ### The quiet timer (R94, R98, R104) -/

theorem quietTime_eq_end_iff {cfg : ConfigSet} {quiet : Nat} :
    quietTime cfg quiet = cfg.episodeQuietMs ↔ cfg.episodeQuietMs ≤ quiet + 10 :=
  ⟨fun h => h ▸ Nat.min_le_left _ _, Nat.min_eq_right⟩

theorem quietTime_of_lt {cfg : ConfigSet} {quiet : Nat} (h : quiet + 10 < cfg.episodeQuietMs) :
    quietTime cfg quiet = quiet + 10 := Nat.min_eq_left (Nat.le_of_lt h)

section
variable (cfg : ConfigSet) (force : Nat) (r : AxleSlide)

/-! ### An entry into slide (R100, R101, R104) -/

/-- The budget that an entry into slide finds: its episode's, or that of the episode it opens (R100). -/
def AxleSlide.entryBudget : Nat := if r.episode then r.budget else cfg.correctionBudget

/-- An entry into slide by the budget it finds, with the record it leaves written out. -/
theorem AxleSlide.enter_eq : r.enter cfg force =
    if 0 < r.entryBudget cfg then
      { r with state := .sliding, suspect := 0, lim := cutLimit cfg force, budget := r.entryBudget cfg - 1
               episode := true, quiet := 0 }
    else
      { r with state := .persistent, suspect := 0, lim := cfg.slideFloor, budget := r.entryBudget cfg
               episode := true, quiet := 0 } := by
  unfold AxleSlide.enter AxleSlide.entryBudget
  cases hepisode : r.episode
  case false => rfl
  case true => simp only [if_true, hepisode]

theorem AxleSlide.enter_of_budget (h : 0 < r.entryBudget cfg) : r.enter cfg force =
    { r with state := .sliding, episode := true, budget := r.entryBudget cfg - 1, quiet := 0, suspect := 0
             lim := min 1000 (max cfg.slideFloor (force * cfg.slideCutPct / 100)) } := by
  rw [AxleSlide.enter_eq, if_pos h, cutLimit, Nat.min_comm]

theorem AxleSlide.enter_of_no_budget (h : r.entryBudget cfg = 0) : r.enter cfg force =
    { r with state := .persistent, episode := true, budget := 0, quiet := 0, suspect := 0, lim := cfg.slideFloor } := by
  rw [AxleSlide.enter_eq, if_neg (Nat.not_lt_of_le (Nat.le_of_eq h)), h]

/-- An entry into slide does not look at the suspect count, which it clears. -/
theorem AxleSlide.enter_withSuspect (n : Nat) : { r with suspect := n }.enter cfg force = r.enter cfg force := by
  rw [AxleSlide.enter_eq, AxleSlide.enter_eq]
  rfl

variable {cfg} {force} {r}

/-! ### ADHERING (R98) -/

theorem AxleSlide.adhering_of_warned (h : cfg.creepWarn ≤ r.creep ∨ (cfg.decelWarn : Int) ≤ r.decel) :
    r.adhering cfg = { r with state := .suspect, suspect := 1, quiet := 0 } := if_pos h

theorem AxleSlide.adhering_of_not_warned (hcreep : r.creep < cfg.creepWarn) (hdecel : r.decel < (cfg.decelWarn : Int)) :
    r.adhering cfg =
      if r.episode then
        if cfg.episodeQuietMs ≤ r.quiet + 10 then r.endEpisode cfg else { r with quiet := quietTime cfg r.quiet }
      else r := by
  have hquiet : ¬(cfg.creepWarn ≤ r.creep ∨ (cfg.decelWarn : Int) ≤ r.decel) :=
    not_or.mpr ⟨Nat.not_le_of_lt hcreep, Int.not_le_of_gt hdecel⟩
  simp only [AxleSlide.adhering, if_neg hquiet, quietTime_eq_end_iff]

/-- A window of an ADHERING axle that meets neither warning, by the episode and the quiet timer. -/
theorem AxleSlide.adhering_quiet (hcreep : r.creep < cfg.creepWarn) (hdecel : r.decel < (cfg.decelWarn : Int)) :
    (r.episode = false → r.adhering cfg = r)
    ∧ (r.episode = true → r.quiet + 10 < cfg.episodeQuietMs → r.adhering cfg = { r with quiet := r.quiet + 10 })
    ∧ (r.episode = true → cfg.episodeQuietMs ≤ r.quiet + 10 →
        r.adhering cfg = { r with episode := false, budget := cfg.correctionBudget, quiet := 0 }) := by
  rw [AxleSlide.adhering_of_not_warned hcreep hdecel]
  refine ⟨fun hclosed => ?_, fun hopen hruns => ?_, fun hopen hended => ?_⟩
  · rw [hclosed, if_neg Bool.false_ne_true]
  · rw [if_pos hopen, if_neg (Nat.not_le_of_lt hruns), quietTime_of_lt hruns]
  · rw [if_pos hopen, if_pos hended, AxleSlide.endEpisode]

/-! ### SUSPECT (R99) -/

theorem AxleSlide.suspected_of_slide (h : cfg.creepSlide ≤ r.creep ∨ (cfg.decelSlide : Int) ≤ r.decel) :
    r.suspected cfg force = r.enter cfg force := if_pos h

theorem AxleSlide.suspected_of_cleared (hslide : ¬(cfg.creepSlide ≤ r.creep ∨ (cfg.decelSlide : Int) ≤ r.decel))
    (hclear : r.creep < cfg.creepWarn ∧ r.decel < (cfg.decelWarn : Int)) :
    r.suspected cfg force = { r with state := .adhering, suspect := 0, quiet := 0 } := by
  rw [AxleSlide.suspected, if_neg hslide, if_pos hclear]

/-- A window between the two thresholds counts, and the count's last window enters slide; a count already at the parameter enters at once. -/
theorem AxleSlide.suspected_of_counted (hslide : ¬(cfg.creepSlide ≤ r.creep ∨ (cfg.decelSlide : Int) ≤ r.decel))
    (hclear : ¬(r.creep < cfg.creepWarn ∧ r.decel < (cfg.decelWarn : Int))) :
    r.suspected cfg force =
      if cfg.suspectWindows ≤ r.suspect + 1 then r.enter cfg force else { r with suspect := r.suspect + 1 } := by
  rw [AxleSlide.suspected, if_neg hslide, if_neg hclear]
  by_cases hcount : r.suspect < cfg.suspectWindows
  case pos => simp only [if_pos hcount, AxleSlide.enter_withSuspect]
  case neg =>
    have hreached : cfg.suspectWindows ≤ r.suspect := Nat.le_of_not_lt hcount
    simp only [if_neg hcount, if_pos hreached, if_pos (Nat.le_succ_of_le hreached)]

/-! ### RECOVERING (R103) -/

theorem AxleSlide.recovering_of_slide (h : cfg.creepSlide ≤ r.creep) : r.recovering cfg force = r.enter cfg force :=
  if_pos h

theorem AxleSlide.recovering_of_restored (hslide : r.creep < cfg.creepSlide) (hlim : 1000 ≤ r.lim + cfg.restoreStep)
    (hwarn : r.creep < cfg.creepWarn) :
    r.recovering cfg force = { r with state := .adhering, lim := 1000, quiet := 0 } := by
  have hfull : min (r.lim + cfg.restoreStep) noLimit = 1000 := Nat.min_eq_right hlim
  simp only [AxleSlide.recovering, if_neg (Nat.not_le_of_lt hslide), hfull]
  exact if_pos ⟨rfl, hwarn⟩

theorem AxleSlide.recovering_of_not_restored (hslide : r.creep < cfg.creepSlide)
    (h : r.lim + cfg.restoreStep < 1000 ∨ cfg.creepWarn ≤ r.creep) :
    r.recovering cfg force = { r with lim := min (r.lim + cfg.restoreStep) 1000 } := by
  have hstays : ¬(min (r.lim + cfg.restoreStep) noLimit = noLimit ∧ r.creep < cfg.creepWarn) := by
    rintro ⟨hfull, hwarn⟩
    have hlim : noLimit ≤ r.lim + cfg.restoreStep := hfull ▸ Nat.min_le_left _ _
    rw [noLimit] at hlim
    omega
  rw [AxleSlide.recovering, if_neg (Nat.not_le_of_lt hslide)]
  exact if_neg hstays

/-! ### PERSISTENT (R104) -/

theorem AxleSlide.persisting_of_warned (h : cfg.creepWarn ≤ r.creep) :
    r.persisting cfg = { r with lim := cfg.slideFloor, quiet := 0 } := if_neg (Nat.not_lt_of_le h)

theorem AxleSlide.persisting_of_quiet_runs (hwarn : r.creep < cfg.creepWarn)
    (hruns : r.quiet + 10 < cfg.episodeQuietMs) :
    r.persisting cfg = { r with lim := cfg.slideFloor, quiet := r.quiet + 10 } := by
  rw [AxleSlide.persisting, if_pos hwarn, if_neg (mt quietTime_eq_end_iff.mp (Nat.not_le_of_lt hruns)),
    quietTime_of_lt hruns]

theorem AxleSlide.persisting_of_quiet_ends (hwarn : r.creep < cfg.creepWarn)
    (hended : cfg.episodeQuietMs ≤ r.quiet + 10) :
    r.persisting cfg =
      { r with state := .adhering, lim := 1000, episode := false, budget := cfg.correctionBudget, quiet := 0 } := by
  rw [AxleSlide.persisting, if_pos hwarn, if_pos (quietTime_eq_end_iff.mpr hended)]
  rfl

/-! ### The state that a window judges (section 5.4) -/

theorem AxleSlide.judge_of_adhering (h : r.state = .adhering) : r.judge cfg force = r.adhering cfg := by
  rw [AxleSlide.judge, h]

theorem AxleSlide.judge_of_suspect (h : r.state = .suspect) : r.judge cfg force = r.suspected cfg force := by
  rw [AxleSlide.judge, h]

theorem AxleSlide.judge_of_sliding (h : r.state = .sliding) : r.judge cfg force = r.sliding cfg := by
  rw [AxleSlide.judge, h]

theorem AxleSlide.judge_of_recovering (h : r.state = .recovering) : r.judge cfg force = r.recovering cfg force := by
  rw [AxleSlide.judge, h]

theorem AxleSlide.judge_of_persistent (h : r.state = .persistent) : r.judge cfg force = r.persisting cfg := by
  rw [AxleSlide.judge, h]

end

/-- Settles O45: the state picks its function of section 5.4, and each of these goes by its cases above. -/
theorem slideStateMachine : Obligations.SlideStateMachine := by
  unfold Obligations.SlideStateMachine
  intro cfg force r
  refine ⟨fun h => ?adhering, fun h => ?suspect, fun h => ?sliding, fun h => ?recovering, fun h => ?persistent,
    fun budget hbudget => ?entry⟩
  case adhering =>
    rw [AxleSlide.judge_of_adhering h]
    exact ⟨AxleSlide.adhering_of_warned, AxleSlide.adhering_quiet⟩
  case suspect =>
    rw [AxleSlide.judge_of_suspect h]
    refine ⟨AxleSlide.suspected_of_slide, fun hslide => ⟨AxleSlide.suspected_of_cleared hslide, fun hclear => ?_⟩⟩
    rw [AxleSlide.suspected_of_counted hslide hclear]
    exact ⟨fun hmore => if_neg (Nat.not_le_of_lt hmore), fun hlast => if_pos hlast⟩
  case sliding =>
    rw [AxleSlide.judge_of_sliding h, AxleSlide.sliding]
  case recovering =>
    rw [AxleSlide.judge_of_recovering h]
    exact ⟨AxleSlide.recovering_of_slide, AxleSlide.recovering_of_restored, AxleSlide.recovering_of_not_restored⟩
  case persistent =>
    rw [AxleSlide.judge_of_persistent h]
    exact ⟨AxleSlide.persisting_of_warned, AxleSlide.persisting_of_quiet_runs, AxleSlide.persisting_of_quiet_ends⟩
  case entry =>
    subst hbudget
    exact ⟨AxleSlide.enter_of_budget cfg force r, AxleSlide.enter_of_no_budget cfg force r⟩

end Sys2Proof.Machine

/-! SUPPORT. The slot requests of the incident recorder (R138, R140, R141): when a service operation writes at its grant, what a taken request places, the rows of each judgement, and the obligation O21. -/

namespace Sys2Proof.Machine

/-! ### A service operation is placed (R139, R142, R167, R186) -/

/-- A service operation that writes if it is granted over this recorder: the sequence number it noted stands, and a lock finds room (R139, R142). -/
def ServiceOp.WritesAt (r : Recorder) : ServiceOp → Prop
  | .lock i noted => (r.directory[i]).sequence = noted ∧ lockedCount r.directory < maxLocked
  | .erase i noted => (r.directory[i]).sequence = noted
  | .configStore _ | .assignStore _ _ | .unlock _ => True

section
variable {s : State} {op : ServiceOp}

theorem State.grantService_of_writesAt (h : op.WritesAt s.recorder) :
    s.grantService op = { s with nv := { s.nv with inFlight := some (.service op false), serviceWait := none } } := by
  cases op with
  | lock i noted =>
    obtain ⟨hseq, hroom⟩ := h
    rw [State.grantService, if_neg (not_not_intro hseq), if_neg (Nat.not_le_of_lt hroom)]
  | erase i noted => exact if_neg (not_not_intro h)
  | configStore w => rfl
  | assignStore ch f => rfl
  | unlock i => rfl

/-- The recorder writes its own waiting position alone (R130). -/
theorem State.placeSeal_eq (s : State) :
    s.placeSeal = { s with nv := { s.nv with recorderWait := s.placeSeal.nv.recorderWait } } := by
  unfold State.placeSeal
  split
  · rfl
  · split <;> rfl

theorem State.placeSeal_of_none_awaiting (h : oldestAwaiting s.recorder.buffers = none) : s.placeSeal = s := by
  unfold State.placeSeal
  rw [h]
  split <;> rfl

/-- A grant answers nothing where the waiting service operation writes (R139, R142). -/
theorem State.grant_ports (h : ∀ op, s.nv.serviceWait = some op → op.WritesAt s.recorder) :
    s.grant.ports = s.ports := by
  unfold State.grant
  split
  · rfl
  · split
    · simp
    · split
      next op hop => rw [State.grantService_of_writesAt (h op hop)]
      next => rfl

theorem State.grant_of_service (hrestart : s.restart = none) (hfree : s.nv.inFlight = none)
    (hseal : s.nv.recorderWait = none) (hop : s.nv.serviceWait = some op) : s.grant = s.grantService op := by
  simp [State.grant, hrestart, hfree, hseal, hop]

theorem State.nvTurn_ports (h : ∀ op, s.nv.serviceWait = some op → op.WritesAt s.recorder) :
    s.nvTurn.ports = s.ports := by
  have hwait : s.placeSeal.nv.serviceWait = s.nv.serviceWait := by rw [State.placeSeal_eq]
  rw [State.nvTurn, State.placeSeal_ports, State.grant_ports, State.placeSeal_ports]
  rwa [hwait, State.placeSeal_recorder]

/-- With nothing in flight and no seal to place, the waiting service operation is granted (R186). -/
theorem State.nvTurn_of_service (hrestart : s.restart = none) (hfree : s.nv.inFlight = none)
    (hseal : s.nv.recorderWait = none) (hnone : oldestAwaiting s.recorder.buffers = none)
    (hop : s.nv.serviceWait = some op) (h : op.WritesAt s.recorder) :
    s.nvTurn = { s with nv := { s.nv with inFlight := some (.service op false), serviceWait := none } } := by
  rw [State.nvTurn, State.placeSeal_of_none_awaiting hnone, State.grant_of_service hrestart hfree hseal hop,
    State.grantService_of_writesAt h]
  exact State.placeSeal_of_none_awaiting hnone

/-- Behind an operation in flight or a pending restart, a SEAL may take its position and nothing else moves (R130, R189). -/
theorem State.nvTurn_of_busy (h : s.restart.isSome = true ∨ s.nv.inFlight.isSome = true) :
    s.nvTurn = { s with nv := { s.nv with recorderWait := s.nvTurn.nv.recorderWait } } := by
  have hflight : s.placeSeal.nv.inFlight = s.nv.inFlight := by rw [State.placeSeal_eq]
  have hturn : s.nvTurn = s.placeSeal.placeSeal := by
    rw [State.nvTurn, State.grant_idle (by rwa [State.placeSeal_restart, hflight])]
  rw [hturn, State.placeSeal_eq s.placeSeal, State.placeSeal_eq s]

/-- A service operation that writes over the recorder as it stands is placed as R167 says. -/
theorem State.placeService_placed (kind : Byte) (h : op.WritesAt s.recorder) :
    s.Placed (s.placeService kind op) kind op where
  owed := State.nvTurn_ports fun _ hop => Option.some.inj hop ▸ h
  granted := by
    intro hrestart hnv hnone
    obtain ⟨hfree, hseal⟩ : s.nv.inFlight = none ∧ s.nv.recorderWait = none := hnv ▸ ⟨rfl, rfl⟩
    have hturn := State.nvTurn_of_service (op := op)
      (s := { s with nv := { s.nv with serviceWait := some op }, ports := { s.ports with outstanding := some kind } })
      hrestart hfree hseal hnone rfl h
    rw [State.placeService, hturn, hnv]
    rfl
  waits := by
    intro hbusy
    have hturn := State.nvTurn_of_busy
      (s := { s with nv := { s.nv with serviceWait := some op }, ports := { s.ports with outstanding := some kind } })
      hbusy
    rw [State.placeService, hturn]
    exact ⟨rfl, rfl, rfl⟩

/-! ### What a judged slot request does (R167) -/

theorem State.judged_atOnce {kind : Byte} {v : SlotVerdict} {r : Result} {data : List Byte} (h : v = .atOnce r data) :
    s.Replied (s.judged kind v) .service (replyFrame kind r data) := by
  subst h
  exact State.reply_replied _ _ _ _ _

theorem State.judged_place {kind : Byte} {v : SlotVerdict} (h : v = .place op) (hw : op.WritesAt s.recorder) :
    s.Placed (s.judged kind v) kind op := by
  subst h
  exact State.placeService_placed kind hw

end

/-! ### The rows of R138, R140 and R141 -/

theorem slotNumber_of_outside {slot : Byte} (h : 12 ≤ slot.toNat) : slotNumber slot = none :=
  dif_neg (Nat.not_lt_of_le h)

theorem slotNumber_of_eq {slot : Byte} {i : Fin 12} (h : slot.toNat = i.val) : slotNumber slot = some i := by
  have hlt : slot.toNat < 12 := h ▸ i.isLt
  rw [slotNumber, dif_pos hlt]
  exact congrArg some (Fin.ext h)

section
variable {d : Vector DirEntry 12} {slot : Byte} {i : Fin 12} {standstill : Bool}

theorem judgeLock_range (h : 12 ≤ slot.toNat) : judgeLock d slot = .atOnce .range [] := by
  rw [judgeLock, slotNumber_of_outside h]

theorem judgeLock_notSealed (h : slot.toNat = i.val) (hs : (d[i]).state ≠ .sealed) :
    judgeLock d slot = .atOnce .notSealed [] := by
  simp [-Fin.getElem_fin, judgeLock, slotNumber_of_eq h, hs]

theorem judgeLock_locked (h : slot.toNat = i.val) (hs : (d[i]).state = .sealed) (hl : (d[i]).lock = true) :
    judgeLock d slot = .atOnce .ok [1] := by
  simp [-Fin.getElem_fin, judgeLock, slotNumber_of_eq h, hs, hl]

theorem judgeLock_full (h : slot.toNat = i.val) (hs : (d[i]).state = .sealed) (hl : (d[i]).lock = false)
    (hfull : maxLocked ≤ lockedCount d) : judgeLock d slot = .atOnce .lockLimit [] := by
  simp [-Fin.getElem_fin, judgeLock, slotNumber_of_eq h, hs, hl, hfull]

theorem judgeLock_lockable (h : slot.toNat = i.val) (hs : (d[i]).state = .sealed) (hl : (d[i]).lock = false)
    (hroom : lockedCount d < maxLocked) : judgeLock d slot = .place (.lock i (d[i]).sequence) := by
  simp [-Fin.getElem_fin, judgeLock, slotNumber_of_eq h, hs, hl, Nat.not_le_of_lt hroom]

theorem judgeUnlock_range (h : 12 ≤ slot.toNat) : judgeUnlock d standstill slot = .atOnce .range [] := by
  rw [judgeUnlock, slotNumber_of_outside h]

theorem judgeUnlock_moving (h : slot.toNat = i.val) : judgeUnlock d false slot = .atOnce .notStandstill [] := by
  simp [judgeUnlock, slotNumber_of_eq h]

theorem judgeUnlock_unlocked (h : slot.toNat = i.val) (hl : (d[i]).lock = false) :
    judgeUnlock d true slot = .atOnce .ok [] := by
  simp [-Fin.getElem_fin, judgeUnlock, slotNumber_of_eq h, hl]

theorem judgeUnlock_locked (h : slot.toNat = i.val) (hl : (d[i]).lock = true) :
    judgeUnlock d true slot = .place (.unlock i) := by
  simp [-Fin.getElem_fin, judgeUnlock, slotNumber_of_eq h, hl]

theorem judgeErase_range (h : 12 ≤ slot.toNat) : judgeErase d standstill slot = .atOnce .range [] := by
  rw [judgeErase, slotNumber_of_outside h]

theorem judgeErase_moving (h : slot.toNat = i.val) : judgeErase d false slot = .atOnce .notStandstill [] := by
  simp [judgeErase, slotNumber_of_eq h]

theorem judgeErase_sealing (h : slot.toNat = i.val) (hs : (d[i]).state = .sealing) :
    judgeErase d true slot = .atOnce .busy [] := by
  simp [-Fin.getElem_fin, judgeErase, slotNumber_of_eq h, hs]

theorem judgeErase_empty (h : slot.toNat = i.val) (hs : (d[i]).state = .empty) :
    judgeErase d true slot = .atOnce .ok [] := by
  simp [-Fin.getElem_fin, judgeErase, slotNumber_of_eq h, hs]

theorem judgeErase_locked (h : slot.toNat = i.val) (hs : (d[i]).state = .sealed) (hl : (d[i]).lock = true) :
    judgeErase d true slot = .atOnce .locked [] := by
  simp [-Fin.getElem_fin, judgeErase, slotNumber_of_eq h, hs, hl]

theorem judgeErase_erasable (h : slot.toNat = i.val)
    (hs : (d[i]).state = .damaged ∨ (d[i]).state = .sealed ∧ (d[i]).lock = false) :
    judgeErase d true slot = .place (.erase i (d[i]).sequence) := by
  rcases hs with hs | ⟨hs, hl⟩
  · simp [-Fin.getElem_fin, judgeErase, slotNumber_of_eq h, hs]
  · simp [-Fin.getElem_fin, judgeErase, slotNumber_of_eq h, hs, hl]

end

/-! ### The requests at a ready service port (R161) -/

section
variable {s : State}

theorem powered_takeFrame {p : PortId} {k : Byte} {n : Nat} {act : State → State} (h : s.ready p)
    (hk : isReportCode k = false) (ha : accepts p k = true) (hn : requestLength k = some n) :
    powered (.takeFrame p k n act) s = .next (act (s.received p)) := by
  rw [powered_on h.1, h.takeFrame hk ha hn]

theorem State.ready.exec_lockIncident (h : s.ready .service) (slot : Byte) : exec (.lockIncident slot) s =
    .next ((s.received .service).judged kindLockIncident (judgeLock s.recorder.directory slot)) := by
  rw [← State.received_recorder s .service]
  exact powered_takeFrame h (by decide) (by decide) (by decide)

theorem State.ready.exec_unlockIncident (h : s.ready .service) (slot : Byte) : exec (.unlockIncident slot) s =
    .next ((s.received .service).judged kindUnlockIncident
      (judgeUnlock s.recorder.directory s.monitor.standstill slot)) := by
  rw [← State.received_recorder s .service, ← State.received_monitor s .service]
  exact powered_takeFrame h (by decide) (by decide) (by decide)

theorem State.ready.exec_eraseIncident (h : s.ready .service) (slot : Byte) : exec (.eraseIncident slot) s =
    .next ((s.received .service).judged kindEraseIncident
      (judgeErase s.recorder.directory s.monitor.standstill slot)) := by
  rw [← State.received_recorder s .service, ← State.received_monitor s .service]
  exact powered_takeFrame h (by decide) (by decide) (by decide)

end

/-- Settles O21: each request is taken and judged over the directory that the reception leaves; a row that answers is a reply, and a row that places meets the conditions its operation is granted under. -/
theorem slotRequestsJudged : Obligations.SlotRequestsJudged := by
  unfold Obligations.SlotRequestsJudged
  intro slot s hready
  have hrec : (s.received .service).recorder = s.recorder := State.received_recorder s .service
  refine ⟨⟨_, hready.exec_lockIncident slot, fun hout => State.judged_atOnce (judgeLock_range hout), fun i hi => ?lock⟩,
    ⟨_, hready.exec_unlockIncident slot, fun hout => State.judged_atOnce (judgeUnlock_range hout),
      fun i hi => ?unlock⟩,
    ⟨_, hready.exec_eraseIncident slot, fun hout => State.judged_atOnce (judgeErase_range hout), fun i hi => ?erase⟩⟩
  case lock =>
    exact ⟨fun hs => State.judged_atOnce (judgeLock_notSealed hi hs),
      fun hs hl => State.judged_atOnce (judgeLock_locked hi hs hl),
      fun hs hl hfull => State.judged_atOnce (judgeLock_full hi hs hl hfull),
      fun hs hl hroom => State.judged_place (judgeLock_lockable hi hs hl hroom) (hrec ▸ ⟨rfl, hroom⟩)⟩
  case unlock =>
    refine ⟨fun hmoving => ?_, fun hstill hl => ?_, fun hstill hl => ?_⟩
    · rw [hmoving]
      exact State.judged_atOnce (judgeUnlock_moving hi)
    · rw [hstill]
      exact State.judged_atOnce (judgeUnlock_unlocked hi hl)
    · rw [hstill]
      exact State.judged_place (judgeUnlock_locked hi hl) trivial
  case erase =>
    refine ⟨fun hmoving => ?_, fun hstill => ?_⟩
    · rw [hmoving]
      exact State.judged_atOnce (judgeErase_moving hi)
    · rw [hstill]
      exact ⟨fun hs => State.judged_atOnce (judgeErase_sealing hi hs),
        fun hs hl => State.judged_atOnce (judgeErase_locked hi hs hl),
        fun hs => State.judged_atOnce (judgeErase_empty hi hs),
        fun hs => State.judged_place (judgeErase_erasable hi hs) (hrec ▸ rfl)⟩

end Sys2Proof.Machine

/-! SUPPORT. The two reading requests of the service port (R181, R185): the fields of an IDENTIFY's data, the row of a parameter code, and the obligation O16. -/

namespace Sys2Proof.Machine

/-! ### The data of an IDENTIFY (R185) -/

/-- A byte that is sent as a number holds that number modulo 256. -/
theorem numberOf_byteOf (n : Nat) : numberOf [byteOf n] = n % 256 := by
  simp only [numberOf, byteOf, List.foldl_cons, List.foldl_nil, BitVec.toNat_ofNat, Nat.zero_mul, Nat.zero_add]

/-- A field of four bytes holds its word (R178). -/
theorem numberOf_bytes32 (w : Word32) : numberOf (bytes32 w) = w.toNat := by
  simp only [numberOf, bytes32, List.foldl_cons, List.foldl_nil, BitVec.extractLsb'_toNat, Nat.shiftRight_eq_div_pow]
  have := w.isLt
  omega

/-- A number that fits in four bytes is read back from them (R178). -/
theorem numberOf_four {n : Nat} (h : n < 4294967296) : numberOf (four n) = n := by
  rw [four, numberOf_bytes32, BitVec.toNat_ofNat, Nat.mod_eq_of_lt h]

theorem ConfigState.code_eq (c : ConfigState) : c.code = if c = .valid then 0 else 1 := by cases c <;> rfl

section
variable {s : State}

theorem identifyData_state : numberAt (identifyData s) 7 1 = if s.store.state = .valid then 0 else 1 := by
  rw [← ConfigState.code_eq]
  calc numberAt (identifyData s) 7 1
      = numberOf [byteOf s.store.state.code] := rfl
    _ = s.store.state.code % 256 := numberOf_byteOf _
    _ = s.store.state.code := by cases s.store.state <;> rfl

theorem identifyData_sequence : numberAt (identifyData s) 8 4 = s.store.sequence.toNat :=
  numberOf_bytes32 s.store.sequence

theorem identifyData_lastReset : numberAt (identifyData s) 12 1 = s.lastReset.code :=
  calc numberAt (identifyData s) 12 1
      = numberOf [byteOf s.lastReset.code] := rfl
    _ = s.lastReset.code % 256 := numberOf_byteOf _
    _ = s.lastReset.code := by cases s.lastReset <;> rfl

theorem identifyData_time (h : s.time < 4294967296) : numberAt (identifyData s) 13 4 = s.time := numberOf_four h

theorem identifyData_distance : numberAt (identifyData s) 17 4 = s.monitor.distance.toNat :=
  numberOf_bytes32 s.monitor.distance

/-- The reception of a frame changes nothing that an IDENTIFY reports. -/
theorem identifyData_received (p : PortId) : identifyData (s.received p) = identifyData s := by
  simp only [identifyData, State.received_store, State.received_lastReset, State.received_time, State.received_monitor]

end

/-! ### The row of a parameter code (R181) -/

/-- No two rows of section 9.1 share a code, so that a row is the first that its code finds. -/
theorem paramTable_find_code : ∀ row ∈ paramTable, paramTable.find? (·.code = row.code) = some row := by decide

theorem paramRow_of_not_listed {code : Byte} (h : ∀ row ∈ paramTable, row.code ≠ code.toNat) : paramRow code = none :=
  List.find?_eq_none.mpr fun row hrow => by simpa using h row hrow

theorem paramRow_of_listed {code : Byte} {row : ParamRow} (hrow : row ∈ paramTable) (hcode : row.code = code.toNat) :
    paramRow code = some row := by
  rw [paramRow, ← hcode]
  exact paramTable_find_code row hrow

/-! ### The requests as they are taken (R161) -/

section
variable {s : State} {code : Byte}

theorem State.ready.exec_identify (h : s.ready .service) :
    exec .identify s = .next ((s.received .service).reply .service kindIdentify .ok (identifyData s)) := by
  rw [← identifyData_received .service]
  exact powered_takeFrame h (by decide) (by decide) (by decide)

theorem State.ready.exec_readConfig (h : s.ready .service) :
    exec (.readConfig code) s = .next ((s.received .service).actReadConfig code) :=
  powered_takeFrame h (by decide) (by decide) (by decide)

theorem State.actReadConfig_of_not_listed (h : ∀ row ∈ paramTable, row.code ≠ code.toNat) :
    s.actReadConfig code = s.reply .service kindReadConfig .range [] := by
  rw [State.actReadConfig, paramRow_of_not_listed h]

theorem State.actReadConfig_of_listed {row : ParamRow} (hrow : row ∈ paramTable) (hcode : row.code = code.toNat) :
    s.actReadConfig code = s.reply .service kindReadConfig .ok (four (s.cfg.get row.param)) := by
  rw [State.actReadConfig, paramRow_of_listed hrow hcode]

end

/-- Settles O16: each request is taken; the data of an IDENTIFY are read field by field, and a READ CONFIG goes by whether the table lists its code. -/
theorem identityAndParametersRead : Obligations.IdentityAndParametersRead := by
  unfold Obligations.IdentityAndParametersRead
  refine ⟨fun s hready => ?identify, fun code s hready => ?readConfig⟩
  case identify =>
    exact ⟨_, identifyData s, hready.exec_identify, State.reply_replied _ _ _ _ _, rfl, rfl, identifyData_state,
      identifyData_sequence, identifyData_lastReset, identifyData_time, identifyData_distance⟩
  case readConfig =>
    refine ⟨_, hready.exec_readConfig, fun hno => ?notListed, fun row hrow hcode => ?listed⟩
    case notListed =>
      rw [State.actReadConfig_of_not_listed hno]
      exact State.reply_replied _ _ _ _ _
    case listed =>
      rw [State.actReadConfig_of_listed hrow hcode, State.received_cfg]
      exact State.reply_replied _ _ _ _ _

end Sys2Proof.Machine

/-! SUPPORT. What every command of the part is made of: the few changes that commands make of the state, and the principle that a predicate which each of them keeps is kept by every command. -/

namespace Sys2Proof.Machine

/-! ### The changes that commands are made of -/

/-- Step 1 of R8 for an event other than a change of the standstill flag: it moves no entry, and takes S5, S6 or S8 out of its condition of R2 at standstill alone (R16, R18, R19, R21, R24). -/
structure Arbiter.Takes (f : Arbiter → Arbiter) : Prop where
  standing : ∀ a g, (f a).standing g = a.standing g
  governor : ∀ a, (f a).governor = a.governor
  stack : ∀ a, (f a).stack = a.stack
  standstill : ∀ a, (f a).standstill = a.standstill
  penalties : ∀ a g, g = .s8 ∨ g = .s5 ∨ g = .s6 → a.wants g = true → (f a).wants g = true ∨ a.standstill = true

/-- Two states that agree in all that the laws of the part speak of, but for histories within their bounds. -/
structure State.Aside (s t : State) : Prop where
  pending : t.pending = s.pending := by rfl
  powered : t.powered = s.powered := by rfl
  arbiter : t.arbiter = s.arbiter := by rfl
  commands : t.ledger.cmd = s.ledger.cmd := by rfl
  reason : t.ledger.lastReason = s.ledger.lastReason := by rfl
  history : s.watch.history.length ≤ 50 → t.watch.history.length ≤ 50 := by exact id
  pulses : ∀ i, (s.monitor.axles.get i).pulses.length ≤ 8 → (t.monitor.axles.get i).pulses.length ≤ 8 := by exact fun _ => id
  speeds : ∀ i, (s.monitor.axles.get i).speeds.length ≤ 8 → (t.monitor.axles.get i).speeds.length ≤ 8 := by exact fun _ => id
  ring : t.recorder.ring = s.recorder.ring := by rfl
  buffers : t.recorder.buffers = s.recorder.buffers := by rfl
  directory : t.recorder.directory = s.recorder.directory := by rfl
  table : t.matrix.table = s.matrix.table := by rfl
  ports : t.ports = s.ports := by rfl
  store : t.store = s.store := by rfl
  nv : t.nv = s.nv := by rfl
  array : t.array = s.array := by rfl
  restart : t.restart = s.restart := by rfl

/-- Two states of the ports with the same lines: they differ in assemblies, links and the capability record alone. -/
structure Ports.SameLines (a b : Ports) : Prop where
  sending : ∀ q, (b.port.get q).sending = (a.port.get q).sending
  replies : ∀ q, (b.port.get q).replies = (a.port.get q).replies
  order : b.order = a.order
  outstanding : b.outstanding = a.outstanding

/-- A service operation that its request's judgement lets be placed (R138, R156, R182). -/
def ServiceOp.Placeable (s : State) (op : ServiceOp) : Prop :=
  (s.store.live.legal = true → tableOk s.matrix.table = true → op.Sound s.store.live s.matrix.table)
  ∧ ∀ i n, op = .lock i n → (s.recorder.directory[i]).state = .sealed

/-- The part once a configuration store has been written, measured, stored in the image and answered (R182). -/
def State.configStored (w : Option (Param × Nat)) (s : State) : State :=
  ((match w with
    | none => s.storeWritten w
    | some pv => (s.storeWritten w).remeasured pv.1).writeImage).deferredReply .ok []

/-- The part once an erase has written its header, reported or not, and cleared the body (R142). -/
def State.erased (slot : Fin 12) (headerWritten : Bool) (s : State) : State :=
  (if headerWritten then s else s.emptied slot).bodyCleared slot

theorem State.emptied_rest (slot : Fin 12) (s : State) :
    s.emptied slot = { s with
      recorder := (s.emptied slot).recorder, array := (s.emptied slot).array, draws := s.draws + 1 } := by
  simp only [State.emptied, State.writeSlot, State.withEntry]

theorem State.bodyCleared_rest (slot : Fin 12) (s : State) :
    s.bodyCleared slot = { s with array := (s.bodyCleared slot).array, draws := s.draws + 1 } := by
  simp only [State.bodyCleared, State.writeSlot]

theorem State.erased_rest (slot : Fin 12) (headerWritten : Bool) (s : State) :
    s.erased slot headerWritten = { s with
      recorder := (s.erased slot headerWritten).recorder
      array := (s.erased slot headerWritten).array
      draws := (s.erased slot headerWritten).draws } := by
  unfold State.erased
  rw [State.bodyCleared_rest]
  cases headerWritten
  · simp only [Bool.false_eq_true, if_false]
    rw [State.emptied_rest]
  · rfl

/-- What the completion of the operation in flight does before the array is free again. -/
inductive State.Completes (s : State) : State → Prop
  | sealed {i slot a w} (h : s.nv.inFlight = some (.sealing i slot a w)) :
      s.Completes (((s.writeSlot slot (sealedSlot s.recorder.buffers[i] .sealed a)).withEntry slot
        ⟨.sealed, a, (s.recorder.buffers[i]).sequence, (s.recorder.buffers[i]).firstKind⟩).withBuffer i .free)
  | stored {w x} (h : s.nv.inFlight = some (.service (.configStore w) x)) : s.Completes (s.configStored w)
  | assigned {ch f x} (h : s.nv.inFlight = some (.service (.assignStore ch f) x)) :
      s.Completes (((s.assigned ch f).writeImage).deferredReply .ok [])
  | locked {slot n x} (h : s.nv.inFlight = some (.service (.lock slot n) x)) :
      s.Completes ((s.withLock slot true).deferredReply .ok [0])
  | unlocked {slot x} (h : s.nv.inFlight = some (.service (.unlock slot) x)) :
      s.Completes ((s.withLock slot false).deferredReply .ok [])
  | erased {slot n x} (h : s.nv.inFlight = some (.service (.erase slot n) x)) :
      s.Completes ((s.erased slot x).deferredReply .ok [])

/-- The array is free again after a completion. -/
def State.landed (s : State) : State := { s with nv := { s.nv with inFlight := none } }

theorem State.afterCompletion_eq (s : State) : s.afterCompletion = s.landed.nvTurn.restartIfDue := rfl

/-- A predicate that an event of the arbiter keeps, with what changes beside it. -/
structure State.KeepsEvents (P : State → Prop) : Prop where
  aside : ∀ s t, s.Aside t → P s → P t
  lines : ∀ s ps, s.ports.SameLines ps → P s → P { s with ports := ps }
  event : ∀ s f, Arbiter.Takes f → P s → P (s.arbiterEvent f)

/-- A predicate that an effort order and the turns of the NV store controller keep too. -/
structure State.KeepsTurns (P : State → Prop) : Prop extends State.KeepsEvents P where
  order : ∀ s l r, P s → P (State.order r { s with ledger := l })
  placeSeal : ∀ s, P s → P s.placeSeal
  grant : ∀ s, P s → P s.grant

/-- A predicate that each change which a frame, a timer or an operation in flight makes of the state keeps. -/
structure State.Keeps (P : State → Prop) : Prop extends State.KeepsTurns P where
  reply : ∀ s p k r d, s.ports.room p = true → P s → P (s.reply p k r d)
  arrive : ∀ s t, P s → P (s.arrive t)
  sample : ∀ s x, P s → P { s with recorder := s.recorder.takeSample x }
  placed : ∀ s k op, op.Placeable s → s.ports.room .service = true → s.ports.outstanding = none → P s →
    P { s with nv := { s.nv with serviceWait := some op }, ports := { s.ports with outstanding := some k } }
  called : ∀ s c, s.ports.restartOwed = true → P s → P { s with restart := c }
  sealedState : ∀ s, P s → P s.sealedState
  headerWritten : ∀ s, P s → P s.eraseHeaderWritten
  completes : ∀ s t, s.Completes t → P s → P t.landed
  restartIfDue : ∀ s, P s → P s.restartIfDue

/-- A predicate that a change of standstill, the end of a transmission, a call for a restart, a power-on reset and the passing of time keep too. -/
structure State.KeepsLive (P : State → Prop) : Prop extends State.Keeps P where
  standstill : ∀ s set, P s → P (s.standstillChange set)
  ends : ∀ s p, P s → P { s with ports := s.ports.endTransmission p }
  calls : ∀ s cause, P s → P (s.callRestart cause)
  powerOn : ∀ s, P s → P s.powerOn
  time : ∀ s, P s → P { s with time := s.time + 1 }

/-- A predicate that every command keeps, the loss of power too. -/
structure State.KeepsAll (P : State → Prop) : Prop extends State.KeepsLive P where
  powerLoss : ∀ s x, s.powered = true → P s → P (s.powerLoss x)

/-! ### Step 1 of R8 for each event -/

section
variable {a : Arbiter}

/-- An event that writes neither entries, governor nor stack, and leaves every non-idle penalty in its condition but at standstill. -/
theorem Arbiter.Takes.of_entries {f : Arbiter → Arbiter} (he : ∀ a, (f a).entries = a.entries)
    (hg : ∀ a, (f a).governor = a.governor) (hs : ∀ a, (f a).stack = a.stack)
    (ht : ∀ a, (f a).standstill = a.standstill)
    (hp : ∀ a g, g = .s8 ∨ g = .s5 ∨ g = .s6 → a.wants g = true → (f a).wants g = true ∨ a.standstill = true) :
    Arbiter.Takes f where
  standing a g := by simp [Arbiter.standing, he]
  governor := hg
  stack := hs
  standstill := ht
  penalties := hp

theorem Arbiter.Takes.id : Arbiter.Takes id :=
  ⟨fun _ _ => rfl, fun _ => rfl, fun _ => rfl, fun _ => rfl, fun _ _ _ h => .inl h⟩

theorem Arbiter.Takes.comp {f k : Arbiter → Arbiter} (hf : Arbiter.Takes f) (hk : Arbiter.Takes k) :
    Arbiter.Takes fun a => k (f a) where
  standing a g := (hk.standing _ g).trans (hf.standing a g)
  governor a := (hk.governor _).trans (hf.governor a)
  stack a := (hk.stack _).trans (hf.stack a)
  standstill a := (hk.standstill _).trans (hf.standstill a)
  penalties a g hg hw := by
    rcases hf.penalties a g hg hw with h | h
    · exact (hk.penalties _ g hg h).imp_right fun hs => (hf.standstill a).symm.trans hs
    · exact .inr h

theorem Arbiter.Takes.ite {f : Arbiter → Arbiter} (c : Arbiter → Bool) (hf : Arbiter.Takes f) :
    Arbiter.Takes fun a => if c a then f a else a where
  standing a g := by
    split
    · exact hf.standing a g
    · rfl
  governor a := by
    split
    · exact hf.governor a
    · rfl
  stack a := by
    split
    · exact hf.stack a
    · rfl
  standstill a := by
    split
    · exact hf.standstill a
    · rfl
  penalties a g hg hw := by
    split
    · exact hf.penalties a g hg hw
    · exact .inl hw

/-- Efforts posted to any source but S5 to S8. -/
theorem Arbiter.Takes.withEfforts (s : Source) (p i : Arbiter → Nat) :
    Arbiter.Takes fun a => a.withEfforts s (p a) (i a) where
  standing a g := a.standing_withEfforts s g _ _
  governor _ := rfl
  stack _ := rfl
  standstill _ := rfl
  penalties a g hg hw := .inl (by rcases hg with rfl | rfl | rfl <;> exact hw)

theorem Arbiter.Takes.evaluateRestraint : Arbiter.Takes Arbiter.evaluateRestraint := by
  refine .of_entries (fun a => ?_) (fun a => ?_) (fun a => ?_) (fun a => ?_) (fun a g hg hw => .inl ?_)
  all_goals unfold Arbiter.evaluateRestraint; split
  any_goals rfl
  · rcases hg with rfl | rfl | rfl <;> exact hw
  · exact hw

theorem Arbiter.Takes.evaluateRaisers (cfg : ConfigSet) (now : Nat) : Arbiter.Takes (Arbiter.evaluateRaisers cfg now) := by
  refine .of_entries (fun a => ?_) (fun a => ?_) (fun a => ?_) (fun a => ?_) (fun a g hg hw => ?_)
  all_goals unfold Arbiter.evaluateRaisers; split
  any_goals rfl
  · rename_i h
    exact .inr (by simp at h; exact h.1)
  · exact .inl hw

theorem Arbiter.Takes.raise (r : EmergencyRaiser) : Arbiter.Takes (Arbiter.raise r) := by
  refine .of_entries (fun _ => rfl) (fun _ => rfl) (fun _ => rfl) (fun _ => rfl) (fun a g hg hw => .inl ?_)
  rcases hg with rfl | rfl | rfl
  · cases r <;> simp_all [Arbiter.raise, Arbiter.wants, EmergencyRaisers.add, EmergencyRaisers.any]
  · exact hw
  · exact hw

theorem Arbiter.Takes.takeHold (hold : Word16) : Arbiter.Takes (Arbiter.takeHold hold) := .withEfforts ..

theorem Arbiter.Takes.takeIntervene (effort : Word16) : Arbiter.Takes (Arbiter.takeIntervene effort) := .withEfforts ..

theorem Arbiter.Takes.takePenalty (effort : Word16) : Arbiter.Takes (Arbiter.takePenalty effort) where
  standing a g := a.standing_withEfforts .s5 g _ _
  governor _ := rfl
  stack _ := rfl
  standstill _ := rfl
  penalties a g hg hw := .inl (by
    rcases hg with rfl | rfl | rfl
    · exact hw
    · rfl
    · exact hw)

theorem Arbiter.Takes.takeReleasePenalty : Arbiter.Takes Arbiter.takeReleasePenalty := by
  refine .of_entries (fun a => ?_) (fun a => ?_) (fun a => ?_) (fun a => ?_) (fun a g hg hw => ?_)
  all_goals unfold Arbiter.takeReleasePenalty; split
  any_goals rfl
  · rename_i h
    refine .inr ?_
    unfold Arbiter.releasePenaltyResult at h
    cases hs : a.standstill <;> simp [hs] at h ⊢
    split at h <;> simp at h
  · exact .inl hw

theorem Arbiter.Takes.takeReleaseEmergency (cfg : ConfigSet) (now : Nat) (r : EmergencyRaiser) :
    Arbiter.Takes (Arbiter.takeReleaseEmergency cfg now r) := by
  refine .of_entries (fun a => ?_) (fun a => ?_) (fun a => ?_) (fun a => ?_) (fun a g hg hw => ?_)
  all_goals unfold Arbiter.takeReleaseEmergency; split
  any_goals rfl
  · rename_i h
    refine .inr ?_
    unfold Arbiter.releaseEmergencyResult at h
    cases hs : a.standstill <;> simp [hs] at h ⊢
    split at h <;> simp at h
  · exact .inl hw

theorem Arbiter.Takes.acknowledge : Arbiter.Takes Arbiter.acknowledge := by
  refine .of_entries (fun a => ?_) (fun a => ?_) (fun a => ?_) (fun a => ?_) (fun a g hg hw => ?_)
  all_goals unfold Arbiter.acknowledge; split
  any_goals rfl
  · exact .inr ‹_›
  · exact .inl hw

/-- A change of the arbiter's own copies alone, which no condition of S5, S6 or S8 reads. -/
theorem Arbiter.Takes.of_copies {f : Arbiter → Arbiter}
    (h : ∀ a, (f a).entries = a.entries ∧ (f a).governor = a.governor ∧ (f a).stack = a.stack
      ∧ (f a).standstill = a.standstill ∧ (f a).penaltyRaised = a.penaltyRaised
      ∧ (f a).emergencyRaisers = a.emergencyRaisers ∧ (a.lossRaisers.any = true → (f a).lossRaisers.any = true)) :
    Arbiter.Takes f := by
  refine .of_entries (fun a => (h a).1) (fun a => (h a).2.1) (fun a => (h a).2.2.1) (fun a => (h a).2.2.2.1)
    (fun a g hg hw => .inl ?_)
  obtain ⟨-, -, -, -, hpen, hemer, hloss⟩ := h a
  rcases hg with rfl | rfl | rfl
  · simpa [Arbiter.wants, hemer] using hw
  · simpa [Arbiter.wants, hpen] using hw
  · exact hloss hw

theorem Arbiter.Takes.post (s : Source) (v : Nat) : Arbiter.Takes fun a => a.post s v :=
  .withEfforts s (fun _ => v) fun a => if a.gateOpen then v else max (a.inForce s) v

theorem Arbiter.Takes.takeCabDemand (d i p : Word16) (flags : Byte) :
    Arbiter.Takes (Arbiter.takeCabDemand d i p flags) := by
  have gated : Arbiter.Takes fun a => { a with gateOpen := controlActive flags } :=
    .of_copies fun _ => ⟨rfl, rfl, rfl, rfl, rfl, rfl, fun h => h⟩
  have posted := ((gated.comp (.post .s0 (takenEffort d))).comp (.post .s1 (takenEffort i))).comp
    (.post .s3 (takenEffort p))
  have recorded : Arbiter.Takes fun a => { a with bail := bailFlag flags, direction := directionOf flags } :=
    .of_copies fun _ => ⟨rfl, rfl, rfl, rfl, rfl, rfl, fun h => h⟩
  exact ((posted.comp (.ite (fun _ => emergencyFlag flags) (.raise .cab))).comp recorded).comp
    (.ite (fun _ => acknowledgeFlag flags) .acknowledge)

theorem Arbiter.Takes.takeLineAsserted : Arbiter.Takes Arbiter.takeLineAsserted :=
  .comp (f := fun a => { a with lineAsserted := true })
    (.of_copies fun _ => ⟨rfl, rfl, rfl, rfl, rfl, rfl, fun h => h⟩) (.raise .line)

theorem Arbiter.Takes.takePipeBegun : Arbiter.Takes Arbiter.takePipeBegun :=
  .comp (f := fun a => { a with pipePresent := true })
    (.of_copies fun _ => ⟨rfl, rfl, rfl, rfl, rfl, rfl, fun h => h⟩) (.raise .pipe)

theorem Arbiter.Takes.takeLineReleased (cfg : ConfigSet) (now : Nat) : Arbiter.Takes (Arbiter.takeLineReleased cfg now) :=
  .comp (f := fun a => { a with lineAsserted := false })
    (.of_copies fun _ => ⟨rfl, rfl, rfl, rfl, rfl, rfl, fun h => h⟩) (.evaluateRaisers cfg now)

theorem Arbiter.Takes.takePipeCleared (cfg : ConfigSet) (now : Nat) : Arbiter.Takes (Arbiter.takePipeCleared cfg now) :=
  .comp (f := fun a => { a with pipePresent := false })
    (.of_copies fun _ => ⟨rfl, rfl, rfl, rfl, rfl, rfl, fun h => h⟩) (.evaluateRaisers cfg now)

theorem Arbiter.Takes.takeHealth (which : Transducer) (healthy : Bool) :
    Arbiter.Takes (Arbiter.takeHealth which healthy) := by
  cases which
  · exact .comp (f := fun a => { a with healthyA := healthy })
      (.of_copies fun _ => ⟨rfl, rfl, rfl, rfl, rfl, rfl, fun h => h⟩) .evaluateRestraint
  · exact .comp (f := fun a => { a with healthyB := healthy })
      (.of_copies fun _ => ⟨rfl, rfl, rfl, rfl, rfl, rfl, fun h => h⟩) .evaluateRestraint
  · exact .comp (f := fun a => { a with healthyPipe := healthy })
      (.of_copies fun _ => ⟨rfl, rfl, rfl, rfl, rfl, rfl, fun h => h⟩) .evaluateRestraint

theorem Arbiter.Takes.takeCabLost : Arbiter.Takes Arbiter.takeCabLost := by
  have lost : Arbiter.Takes fun a =>
      { a with
        lossRaisers := { a.lossRaisers with cabLost := true }, gateOpen := false, bail := false, cabFresh := false } :=
    .of_copies fun a => ⟨rfl, rfl, rfl, rfl, rfl, rfl, fun _ => by simp [LossRaisers.any]⟩
  exact ((Arbiter.Takes.withEfforts .s0 (fun _ => 0) fun _ => 0).comp lost).comp .evaluateRestraint

theorem Arbiter.Takes.takeSupervisionLost : Arbiter.Takes Arbiter.takeSupervisionLost :=
  .comp (f := fun a => { a with lossRaisers := { a.lossRaisers with supervisionLost := true }, supervisionFresh := false })
    (.of_copies fun _ => ⟨rfl, rfl, rfl, rfl, rfl, rfl, fun _ => by simp [LossRaisers.any]⟩) .evaluateRestraint

theorem Arbiter.Takes.takeCabFresh : Arbiter.Takes Arbiter.takeCabFresh :=
  .comp (f := fun a => { a with cabFresh := true })
    (.of_copies fun _ => ⟨rfl, rfl, rfl, rfl, rfl, rfl, fun h => h⟩) .evaluateRestraint

theorem Arbiter.Takes.takeSupervisionFresh : Arbiter.Takes Arbiter.takeSupervisionFresh :=
  .comp (f := fun a => { a with supervisionFresh := true })
    (.of_copies fun _ => ⟨rfl, rfl, rfl, rfl, rfl, rfl, fun h => h⟩) .evaluateRestraint

theorem Arbiter.Takes.takeReset : Arbiter.Takes Arbiter.takeReset := by
  have raised : Arbiter.Takes fun a => { a with restraintRaised := true } :=
    .of_copies fun _ => ⟨rfl, rfl, rfl, rfl, rfl, rfl, fun h => h⟩
  exact raised.comp (.ite (fun a => a.lineAsserted) (.raise .line))

theorem Arbiter.Takes.takeConfigValid : Arbiter.Takes Arbiter.takeConfigValid :=
  .comp (f := fun a => { a with configValid := true })
    (.of_copies fun _ => ⟨rfl, rfl, rfl, rfl, rfl, rfl, fun h => h⟩) .evaluateRestraint

end

end Sys2Proof.Machine

/-! SUPPORT. From the changes to the commands: a predicate that each change keeps is kept by every frame, every timed event, every completion, and so by every command and step. -/

namespace Sys2Proof.Machine

/-! ### Lines of the ports -/

/-- The frames of a port but for what is in transmission and what waits are as they were. -/
theorem Ports.SameLines.refresh (ps : Ports) (m : Master) (now : Nat) : ps.SameLines (ps.refresh m now) :=
  ⟨fun _ => rfl, fun _ => rfl, rfl, rfl⟩

theorem Ports.SameLines.lose (ps : Ports) (m : Master) : ps.SameLines (ps.lose m) :=
  ⟨fun _ => rfl, fun _ => rfl, rfl, rfl⟩

theorem Ports.SameLines.capability (ps : Ports) (c : Capability) : ps.SameLines { ps with capability := c } :=
  ⟨fun _ => rfl, fun _ => rfl, rfl, rfl⟩

theorem Ports.SameLines.assembly (ps : Ports) (p : PortId) (a : Assembly) :
    ps.SameLines (ps.withPort p { ps.port.get p with assembly := a }) where
  sending q := by
    by_cases h : q = p
    · subst h; simp [Ports.withPort]
    · simp [Ports.withPort, PerPort.get_set_ne _ _ h]
  replies q := by
    by_cases h : q = p
    · subst h; simp [Ports.withPort]
    · simp [Ports.withPort, PerPort.get_set_ne _ _ h]
  order := rfl
  outstanding := rfl

theorem Ports.SameLines.waiting {a b : Ports} (h : a.SameLines b) (p : PortId) : b.waiting p = a.waiting p := by
  simp [Ports.waiting, h.replies, h.outstanding]

theorem Ports.SameLines.room {a b : Ports} (h : a.SameLines b) (p : PortId) : b.room p = a.room p := by
  simp [Ports.room, h.waiting]

theorem Ports.SameLines.line {a b : Ports} (h : a.SameLines b) (p : PortId) : b.line p = a.line p := by
  simp [Ports.line, h.sending, h.replies, h.order]

/-- An OK reply to a RESTART is owed while the service port's line holds one (R189). -/
theorem Ports.restartOwed_iff (ps : Ports) : ps.restartOwed = true ↔ restartReply ∈ ps.line .service := by
  simp [Ports.restartOwed, Ports.line, PerPort.get]

theorem Ports.restartOwed_start {ps : Ports} {p : PortId} (h : ps.restartOwed = true) :
    (ps.start p).restartOwed = true := by
  rw [Ports.restartOwed_iff] at h ⊢
  rwa [Ports.line_start]

theorem Ports.restartOwed_place {ps : Ports} {p : PortId} {f : Frame} (h : ps.restartOwed = true) :
    (ps.place p f).restartOwed = true := by
  rw [Ports.restartOwed_iff] at h ⊢
  have hq := ps.place_queued p f
  by_cases hp : p = .service
  · subst hp
    rw [hq.line]
    exact List.mem_append_left _ h
  · have hport := hq.others .service (Ne.symm hp)
    simpa [Ports.line, hport] using h

theorem Ports.restartOwed_place_restartReply (ps : Ports) : (ps.place .service restartReply).restartOwed = true := by
  rw [Ports.restartOwed_iff, (ps.place_queued .service restartReply).line]
  exact List.mem_append_right _ (List.mem_singleton.mpr rfl)

/-! ### The room that a taken request has found -/

/-- What the judgement of R161 has found when a request is taken: room for the reply, and on the service port no outstanding request. -/
def State.Roomy (s : State) (p : PortId) : Prop :=
  s.ports.room p = true ∧ (p = .service → s.ports.outstanding = none)

theorem State.Roomy.of_lines {s : State} {p : PortId} (h : s.Roomy p) {ps : Ports} (hp : s.ports.SameLines ps) :
    State.Roomy { s with ports := ps } p :=
  ⟨(hp.room p).trans h.1, fun hs => hp.outstanding.trans (h.2 hs)⟩

/-- Handing over an order moves no reply (R163). -/
theorem Ports.handOrder_replies (ps : Ports) (o : EffortOrder) (p : PortId) :
    ((ps.handOrder o).port.get p).replies.length ≤ (ps.port.get p).replies.length := by
  unfold Ports.handOrder
  rcases Ports.start_cases { ps with order := some o } .traction with h | ⟨_, _, _, _, h⟩ | ⟨f, fs, hr, _, h⟩
  · have hkept := congrArg (fun x : Ports => (x.port.get p).replies.length) h
    exact Nat.le_of_eq hkept
  · rw [h]
    by_cases hp : p = .traction
    · subst hp; simp [Ports.withPort]
    · simp [Ports.withPort, PerPort.get_set_ne _ _ hp]
  · rw [h]
    by_cases hp : p = .traction
    · subst hp
      have hr' : (ps.port.get .traction).replies = f :: fs := hr
      simp [Ports.withPort, hr']
    · simp [Ports.withPort, PerPort.get_set_ne _ _ hp]

theorem Ports.handOrder_waiting (ps : Ports) (o : EffortOrder) (p : PortId) :
    (ps.handOrder o).waiting p ≤ ps.waiting p := by
  have h := ps.handOrder_replies o p
  have ho : (ps.handOrder o).outstanding = ps.outstanding := Ports.start_outstanding _ _
  simp only [Ports.waiting, ho]
  omega

/-! ### The judgements of the requests that place a service operation -/

/-- No parameter stands in two rows of the table (section 9.1). -/
theorem paramTable_param_nodup : (paramTable.map ParamRow.param).Nodup := by decide

/-- Elements of a list whose images do not repeat are told apart by them. -/
theorem eq_of_nodup_map {α β : Type} {f : α → β} {l : List α} (h : (l.map f).Nodup) {x y : α} (hx : x ∈ l) (hy : y ∈ l)
    (hxy : f x = f y) : x = y := by
  induction l with
  | nil => exact absurd hx List.not_mem_nil
  | cons z l ih =>
    rw [List.map_cons, List.nodup_cons] at h
    obtain ⟨hz, hl⟩ := h
    rcases List.mem_cons.mp hx with rfl | hxl
    · rcases List.mem_cons.mp hy with rfl | hyl
      · rfl
      · exact absurd (hxy ▸ List.mem_map_of_mem hyl) hz
    · rcases List.mem_cons.mp hy with rfl | hyl
      · exact absurd (hxy ▸ List.mem_map_of_mem hxl) hz
      · exact ih hl hxl hyl

theorem ConfigSet.get_put (c : ConfigSet) (p q : Param) (v : Nat) : (c.put p v).get q = if q = p then v else c.get q := by
  cases p <;> cases q <;> first
    | rfl
    | (rename_i i j; cases i <;> cases j <;> rfl)

/-- A set with a value of a row's range put into it is in range where it was (R180). -/
theorem ConfigSet.inRange_put {c : ConfigSet} {row : ParamRow} {v : Nat} (h : c.inRange = true)
    (hrow : row ∈ paramTable) (hlo : row.lo ≤ v) (hhi : v ≤ row.hi) : (c.put row.param v).inRange = true := by
  simp only [ConfigSet.inRange, List.all_eq_true, Bool.and_eq_true, decide_eq_true_eq] at h ⊢
  intro r hr
  rw [ConfigSet.get_put]
  split
  · rename_i hp
    rw [eq_of_nodup_map paramTable_param_nodup hr hrow hp]
    exact ⟨hlo, hhi⟩
  · exact h r hr

/-- A write that R182 accepts leaves a legal set. -/
theorem judgeWrite_sound {c : ConfigSet} {standstill : Bool} {code : Byte} {value : Word32} {w : Param × Nat}
    (h : judgeWrite c standstill code value = .ok w) (hc : c.legal = true) : (c.put w.1 w.2).legal = true := by
  unfold judgeWrite at h
  split at h
  · cases h
  · rename_i row hrow
    split at h
    · cases h
    · rename_i hrange
      split at h
      · cases h
      · split at h
        · cases h
        · rename_i hcross
          cases h
          have hin : c.inRange = true := by
            simp only [ConfigSet.legal, Bool.and_eq_true] at hc
            exact hc.1
          simp only [ConfigSet.legal, Bool.and_eq_true]
          exact ⟨ConfigSet.inRange_put hin (List.mem_of_find?_eq_some hrow) (by omega) (by omega), by simpa using hcross⟩

/-! ### A table after an assignment that R156 accepts -/

section
variable {t : ChannelTable} {ch : Fin 22} {f g : ChanFn}

theorem assignTable_get (t : ChannelTable) (ch : Fin 22) (f : ChanFn) (c : Fin 22) :
    (assignTable t ch f)[c] = if c = ch then f else if !f.general && t[c] = f then .unused else t[c] := by
  simp [assignTable]

theorem mem_allChannels (c : Fin 22) : c ∈ allChannels := by revert c; decide

/-- Each channel stands once in the list of them. -/
theorem length_filter_allChannels : ∀ ch : Fin 22, (allChannels.filter fun c => decide (c = ch)).length = 1 := by decide

/-- A function of one place stands, after it is assigned, on its channel alone (R157). -/
theorem holders_assign_self (hf : f.general = false) : holders (assignTable t ch f) f = 1 := by
  have hne : ChanFn.unused ≠ f := by rintro rfl; cases hf
  have hiff : ∀ c : Fin 22, (assignTable t ch f)[c] = f ↔ c = ch := by
    intro c
    rw [assignTable_get]
    split
    · simp [*]
    · split
      · simp [*]
      · rename_i hc ht
        simpa [hc, hf] using ht
  unfold holders
  rw [List.filter_congr (q := fun c => decide (c = ch)) fun c _ => decide_eq_decide.mpr (hiff c)]
  exact length_filter_allChannels ch

/-- Another function keeps its channels, but for the one that is assigned (R157). -/
theorem assign_holds_iff (hg : g ≠ f) (hu : g ≠ .unused) (c : Fin 22) :
    (assignTable t ch f)[c] = g ↔ c ≠ ch ∧ t[c] = g := by
  rw [assignTable_get]
  split
  · simp [*, hg.symm]
  · rename_i hc
    split
    · rename_i ht
      have htc : t[c] = f := by simp at ht; exact ht.2
      simp [hu.symm, htc, hg.symm]
    · simp [hc]

theorem holders_assign_le (hg : g ≠ f) (hu : g ≠ .unused) : holders (assignTable t ch f) g ≤ holders t g := by
  unfold holders
  simp only [← List.countP_eq_length_filter]
  refine List.countP_mono_left fun c _ h => ?_
  simp only [decide_eq_true_eq] at h ⊢
  exact ((assign_holds_iff hg hu c).mp h).2

theorem holders_assign_of_ne (hg : g ≠ f) (hu : g ≠ .unused) (hch : t[ch] ≠ g) :
    holders (assignTable t ch f) g = holders t g := by
  unfold holders
  refine congrArg List.length (List.filter_congr fun c _ => ?_)
  rw [decide_eq_decide, assign_holds_iff hg hu]
  refine ⟨And.right, fun h => ⟨?_, h⟩⟩
  rintro rfl
  exact hch h

/-- An assignment that R156 accepts leaves a table that R149 allows. -/
theorem tableOk_assign (ht : tableOk t = true) (ha : f.allowedOn (chanKind ch) = true)
    (hr : (t[ch]).required = false) : tableOk (assignTable t ch f) = true := by
  simp only [tableOk, tableAllowed, Bool.and_eq_true, List.all_eq_true, decide_eq_true_eq] at ht ⊢
  obtain ⟨⟨⟨hallowed, hreq⟩, hfwd⟩, hrev⟩ := ht
  have one : ∀ g : ChanFn, g ≠ .unused → g.general = false → holders t g ≤ 1 → holders (assignTable t ch f) g ≤ 1 := by
    intro g hu hgen hle
    by_cases hg : g = f
    · subst hg; exact Nat.le_of_eq (holders_assign_self hgen)
    · exact Nat.le_trans (holders_assign_le hg hu) hle
  refine ⟨⟨⟨fun c hc => ?_, fun g hmem => ?_⟩, one .sandFwd (by decide) rfl hfwd⟩, one .sandRev (by decide) rfl hrev⟩
  · rw [assignTable_get]
    split
    · rename_i h; rw [h]; exact ha
    · split
      · rfl
      · exact hallowed c hc
  · have hgreq : ∀ g ∈ requiredFns, g.required = true ∧ g.general = false ∧ g ≠ .unused := by decide
    obtain ⟨hgr, hgen, hu⟩ := hgreq g hmem
    by_cases hg : g = f
    · subst hg; exact holders_assign_self hgen
    · rw [holders_assign_of_ne hg hu (by rintro h; rw [h, hgr] at hr; cases hr)]
      exact hreq g hmem

end

/-- What R156 lets be placed leaves a table that R149 allows. -/
theorem judgeAssign_sound {t : ChannelTable} {standstill : Bool} {channel function : Byte} {ch : Fin 22} {f : ChanFn}
    (h : judgeAssign t standstill channel function = .store ch f) (ht : tableOk t = true) :
    tableOk (assignTable t ch f) = true := by
  unfold judgeAssign at h
  split at h
  · split at h
    · cases h
    · split at h
      · cases h
      · rename_i ha
        split at h
        · cases h
        · rename_i hr
          split at h
          · cases h
          · rename_i hne
            cases h
            refine tableOk_assign ht (by simpa using ha) ?_
            cases hreq : (t[ch]).required
            · rfl
            · exact absurd (by rw [hreq]; simpa using hne) hr
  · cases h

/-- What R138 lets be placed is a lock of a SEALED slot. -/
theorem judgeLock_place {d : Vector DirEntry 12} {slot : Byte} {op : ServiceOp} (h : judgeLock d slot = .place op) :
    ∃ i : Fin 12, (d[i]).state = .sealed ∧ op = .lock i (d[i]).sequence := by
  unfold judgeLock at h
  split at h
  · cases h
  · rename_i i _
    split at h
    · cases h
    · rename_i hs
      split at h
      · cases h
      · split at h
        · cases h
        · cases h
          exact ⟨i, by simpa using hs, rfl⟩

/-- What R140 lets be placed is an unlocking. -/
theorem judgeUnlock_place {d : Vector DirEntry 12} {standstill : Bool} {slot : Byte} {op : ServiceOp}
    (h : judgeUnlock d standstill slot = .place op) : ∃ i, op = .unlock i := by
  unfold judgeUnlock at h
  split at h
  · cases h
  · rename_i i _
    split at h
    · cases h
    · split at h
      · cases h
      · cases h
        exact ⟨i, rfl⟩

/-- What R141 lets be placed is an erasure. -/
theorem judgeErase_place {d : Vector DirEntry 12} {standstill : Bool} {slot : Byte} {op : ServiceOp}
    (h : judgeErase d standstill slot = .place op) : ∃ i n, op = .erase i n := by
  unfold judgeErase at h
  split at h
  · cases h
  · rename_i i _
    split at h
    · cases h
    · split at h
      · cases h
      · cases h
      · split at h
        · cases h
        · cases h
          exact ⟨i, _, rfl⟩
      · cases h
        exact ⟨i, _, rfl⟩

section
variable {s : State}

theorem ServiceOp.placeable_of_judgeLock {slot : Byte} {op : ServiceOp}
    (h : judgeLock s.recorder.directory slot = .place op) : op.Placeable s := by
  obtain ⟨i, hs, rfl⟩ := judgeLock_place h
  exact ⟨fun _ _ => trivial, fun j n hj => by cases hj; exact hs⟩

theorem ServiceOp.placeable_of_judgeUnlock {standstill : Bool} {slot : Byte} {op : ServiceOp}
    (h : judgeUnlock s.recorder.directory standstill slot = .place op) : op.Placeable s := by
  obtain ⟨i, rfl⟩ := judgeUnlock_place h
  exact ⟨fun _ _ => trivial, fun _ _ hj => by cases hj⟩

theorem ServiceOp.placeable_of_judgeErase {standstill : Bool} {slot : Byte} {op : ServiceOp}
    (h : judgeErase s.recorder.directory standstill slot = .place op) : op.Placeable s := by
  obtain ⟨i, n, rfl⟩ := judgeErase_place h
  exact ⟨fun _ _ => trivial, fun _ _ hj => by cases hj⟩

theorem ServiceOp.placeable_of_judgeAssign {standstill : Bool} {channel function : Byte} {ch : Fin 22} {f : ChanFn}
    (h : judgeAssign s.matrix.table standstill channel function = .store ch f) : (ServiceOp.assignStore ch f).Placeable s :=
  ⟨fun _ ht => judgeAssign_sound h ht, fun _ _ hj => by cases hj⟩

theorem ServiceOp.placeable_of_judgeWrite {standstill : Bool} {code : Byte} {value : Word32} {w : Param × Nat}
    (h : judgeWrite s.cfg standstill code value = .ok w) : (ServiceOp.configStore (some w)).Placeable s :=
  ⟨fun hc _ => judgeWrite_sound h hc, fun _ _ hj => by cases hj⟩

theorem ServiceOp.placeable_confirm : (ServiceOp.configStore none).Placeable s :=
  ⟨fun hc _ => hc, fun _ _ hj => by cases hj⟩

end

end Sys2Proof.Machine

/-! SUPPORT. From the changes to the commands: a predicate that each change keeps is kept by every frame, every timed event, every completion, and so by every command and step. -/

namespace Sys2Proof.Machine

/-- A restart that is called while the reply to its call is owed waits for it (R189). -/
theorem State.callRestart_of_owed {s : State} (h : s.ports.restartOwed = true)
    (cause : ResetCause) : s.callRestart cause = { s with restart := some (s.restart.getD cause) } := by
  simp [State.callRestart, State.restartIfDue, h]

theorem length_pushReading_le {h : List Nat} (p : Nat) (hh : h.length ≤ 50) :
    (pushReading h p).length ≤ 50 := by
  unfold pushReading
  split <;> simp <;> omega

theorem length_pushEight_le {α : Type} {h : List α} (x : α) (hh : h.length ≤ 8) :
    (pushEight h x).length ≤ 8 := by
  unfold pushEight
  split <;> simp <;> omega

/-- The commands that end a transmission, change the standstill flag, or reset the part. -/
def apart : Instr → Bool
  | .standstillChange _ | .transmissionEnds _ | .restartLineAsserted | .powerOnReset | .powerLoss _ => true
  | _ => false

/-- A report or request is a command of a part that has power, and does what its frame does. -/
theorem exec_of_encodeFrame {c : Instr} {x : PortId × Byte × List Byte} (h : encodeFrame c = some x) (s : State) :
    exec c s = powered (.takeRequest c) s := by
  cases c with
  | cabDemand | releaseEmergency | ledgerQuery | capabilityReport | alive | withdrawElectric | resumeElectric
  | intervene | penalty | releasePenalty | emergency | freeze | identify | readConfig | writeConfig | confirmConfig
  | readChannel | assignChannel | driveChannel | listIncidents | readIncident | lockIncident | unlockIncident
  | eraseIncident | setMatch | restart => rfl
  | _ => simp [encodeFrame] at h

theorem PipeWatch.length_history_sample (cfg : ConfigSet) (cv : Conversion) (w : PipeWatch)
    (h : w.history.length ≤ 50) : (w.sample cfg cv).history.length ≤ 50 := by
  unfold PipeWatch.sample
  split
  · unfold PipeWatch.evaluate
    dsimp only
    split <;> exact length_pushReading_le _ h
  · split
    · exact h
    · exact Nat.zero_le _

theorem AxleRecord.length_window_le (diameter ppr : Nat) (channel : Option (Fin 8)) (healthy : Bool) (count : Nat)
    (r : AxleRecord) :
    (r.pulses.length ≤ 8 → (r.window diameter ppr channel healthy count).pulses.length ≤ 8)
    ∧ (r.speeds.length ≤ 8 → (r.window diameter ppr channel healthy count).speeds.length ≤ 8) := by
  unfold AxleRecord.window
  split
  · exact ⟨fun _ => Nat.zero_le _, fun _ => Nat.zero_le _⟩
  · split
    · exact ⟨fun _ => length_pushEight_le (h := []) _ (Nat.zero_le _), fun _ => length_pushEight_le (h := []) _ (Nat.zero_le _)⟩
    · exact ⟨length_pushEight_le _, length_pushEight_le _⟩

namespace State.KeepsEvents

section
variable {P : State → Prop} (hP : State.KeepsEvents P) {s : State}
include hP

/-! ### Links -/

theorem withAssembly (p : PortId) (a : Assembly) (h : P s) : P (s.withAssembly p a) :=
  hP.lines _ _ (.assembly s.ports p a) h

theorem deliver (ds : List Instr) (h : P s) : P (s.deliver ds) := hP.aside s _ {} h

theorem refreshLink (m : Master) (h : P s) : P (s.refreshLink m) := by
  have hl := hP.lines _ _ (.refresh s.ports m s.time) h
  rcases s.refreshLink_cases m with he | ⟨f, -, rfl | rfl, he⟩ <;> rw [he]
  · exact hl
  · exact hP.event _ _ .takeCabFresh hl
  · exact hP.event _ _ .takeSupervisionFresh hl

theorem loseLink (m : Master) (h : P s) : P (s.loseLink m) := by
  have hl := hP.lines _ _ (.lose s.ports m) h
  unfold State.loseLink
  cases m with
  | cab => exact hP.event _ _ .takeCabLost (hP.deliver _ hl)
  | supervision => exact hP.event _ _ .takeSupervisionLost (hP.deliver _ hl)
  | traction =>
    dsimp only
    split
    · exact hP.deliver _ hl
    · exact hl

theorem received (p : PortId) (h : P s) : P (s.received p) := by
  have hl := hP.lines _ _ (.assembly s.ports p .hunt) h
  unfold State.received
  dsimp only
  split
  · exact hP.refreshLink _ hl
  · exact hl

/-- A running timer measured with its new value is the event of its expiry, or nothing (R18, R170). -/
theorem remeasured (p : Param) (h : P s) : P (s.remeasured p) := by
  unfold State.remeasured
  split
  · exact hP.event _ _ (.evaluateRaisers ..) h
  all_goals first | exact h | (split <;> first | exact hP.loseLink _ h | exact h)

end

end State.KeepsEvents

namespace State.KeepsTurns

section
variable {P : State → Prop} (hP : State.KeepsTurns P) {s : State}
include hP

/-! ### Resets -/

theorem nvTurn (h : P s) : P s.nvTurn := hP.placeSeal _ (hP.grant _ (hP.placeSeal _ h))

/-- What every reset ends with keeps a predicate that holds whatever the ledger is, which it takes anew (R33). -/
theorem concludeReset (h : ∀ l, P { s with ledger := l }) : P s.concludeReset := by
  have copied : ∀ l, P { State.arbiterEvent .takeReset
      { s.deliver s.matrix.alignTriggers with matrix := s.matrix.alignMarks } with ledger := l } := fun l =>
    hP.event _ _ .takeReset (hP.aside { s with ledger := l }
      { s.deliver s.matrix.alignTriggers with matrix := s.matrix.alignMarks, ledger := l } {} (h l))
  unfold State.concludeReset
  dsimp only
  refine hP.nvTurn ?_
  split
  · exact hP.order _ _ _ (hP.aside _ _ {} (copied (.afterReset _)))
  · exact copied _

end

end State.KeepsTurns

namespace State.Keeps

section
variable {P : State → Prop} (hP : State.Keeps P) {s : State}
include hP

/-! ### Frames -/

/-- A report that is taken. -/
theorem takeReport {p : PortId} {k : Byte} {n : Nat} {act : State → State} (hact : ∀ u, P u → P (act u)) (h : P s) :
    P (s.takeFrame p k n act) := by
  have hr := hP.received p h
  rcases s.takeFrame_cases p k n act with he | ⟨r, hj, he⟩ | ⟨_, he⟩ <;> rw [he]
  · exact hr
  · exact hP.reply _ _ _ _ _ (Ports.judge_answer hj).2 hr
  · exact hact _ hr

/-- A request that is taken finds room for its reply. -/
theorem takeRequestFrame {p : PortId} {k : Byte} {n : Nat} {act : State → State} (hk : isReportCode k = false)
    (hact : ∀ u, u.Roomy p → P u → P (act u)) (h : P s) : P (s.takeFrame p k n act) := by
  have hr := hP.received p h
  rcases s.takeFrame_cases p k n act with he | ⟨r, hj, he⟩ | ⟨hj, he⟩ <;> rw [he]
  · exact hr
  · exact hP.reply _ _ _ _ _ (Ports.judge_answer hj).2 hr
  · refine hact _ ?_ hr
    rcases Ports.judge_take hj with hrep | hroom
    · rw [hk] at hrep; cases hrep
    · exact hroom

theorem placeService {k : Byte} {op : ServiceOp} (hop : op.Placeable s) (hroom : s.Roomy .service) (h : P s) :
    P (s.placeService k op) :=
  hP.placeSeal _ (hP.grant _ (hP.placeSeal _ (hP.placed s k op hop hroom.1 (hroom.2 rfl) h)))

theorem clampNotice (b : Bool) (h : P s) : P (s.clampNotice b) := hP.aside s _ {} h

/-! ### The requests as they are taken -/

theorem actCabDemand (d i a : Word16) (flags : Byte) (hroom : s.Roomy .cab) (h : P s) :
    P (s.actCabDemand d i a flags) := by
  refine hP.reply _ _ _ _ _ ?_ (hP.clampNotice _ (hP.event _ _ (.takeCabDemand d i a flags) (hP.refreshLink .cab h)))
  simpa [(Ports.SameLines.refresh s.ports .cab s.time).room] using hroom.1

theorem actReleaseEmergency (p : PortId) (hroom : s.Roomy p) (h : P s) : P (s.actReleaseEmergency p) := by
  unfold State.actReleaseEmergency
  split
  · exact hP.reply _ _ _ _ _ hroom.1 (hP.event _ _ (.takeReleaseEmergency ..) h)
  · exact hP.reply _ _ _ _ _ hroom.1 h

theorem actCapabilityReport (axles : PerAxle AxleReport) (cutOut : Byte) (hold : Word16) (h : P s) :
    P (s.actCapabilityReport axles cutOut hold) :=
  hP.clampNotice _ (hP.event _ _ (.takeHold hold) (hP.refreshLink .traction
    (hP.lines _ _ (.capability s.ports ⟨axles, cutOutFlags cutOut, hold⟩) h)))

theorem actWithdrawElectric (hroom : s.Roomy .traction) (h : P s) : P s.actWithdrawElectric := by
  refine hP.reply _ _ _ _ _ ?_ (hP.order s { s.ledger.zeroed with withdrawn := true } .withdraw h)
  have hr : s.ports.waiting .traction < 4 := by simpa [Ports.room] using hroom.1
  exact decide_eq_true (Nat.lt_of_le_of_lt (s.ports.handOrder_waiting _ .traction) hr)

theorem actResumeElectric (hroom : s.Roomy .traction) (h : P s) : P s.actResumeElectric :=
  hP.reply { s with ledger := { s.ledger with withdrawn := false } } _ _ _ _ hroom.1 (hP.aside s _ {} h)

theorem actIntervene (effort : Word16) (hroom : s.Roomy .supervision) (h : P s) : P (s.actIntervene effort) :=
  hP.reply _ _ _ _ _ hroom.1 (hP.clampNotice _ (hP.event _ _ (.takeIntervene effort) h))

theorem actPenalty (effort : Word16) (hroom : s.Roomy .supervision) (h : P s) : P (s.actPenalty effort) :=
  hP.reply _ _ _ _ _ hroom.1 (hP.clampNotice _ (hP.event _ _ (.takePenalty effort) h))

theorem actReleasePenalty (hroom : s.Roomy .supervision) (h : P s) : P s.actReleasePenalty := by
  unfold State.actReleasePenalty
  split
  · exact hP.reply _ _ _ _ _ hroom.1 (hP.event _ _ .takeReleasePenalty h)
  · exact hP.reply _ _ _ _ _ hroom.1 h

theorem actEmergency (hroom : s.Roomy .supervision) (h : P s) : P s.actEmergency :=
  hP.reply _ _ _ _ _ hroom.1 (hP.event _ _ (.raise .supervision) h)

theorem actFreeze (tag : Word16) (hroom : s.Roomy .supervision) (h : P s) : P (s.actFreeze tag) :=
  hP.reply _ _ _ _ _ hroom.1 (hP.deliver _ h)

theorem actReadConfig (code : Byte) (hroom : s.Roomy .service) (h : P s) : P (s.actReadConfig code) := by
  unfold State.actReadConfig
  split <;> exact hP.reply _ _ _ _ _ hroom.1 h

theorem actWriteConfig (code : Byte) (value : Word32) (hroom : s.Roomy .service) (h : P s) :
    P (s.actWriteConfig code value) := by
  unfold State.actWriteConfig
  split
  · exact hP.reply _ _ _ _ _ hroom.1 h
  · rename_i hw
    exact hP.placeService (ServiceOp.placeable_of_judgeWrite hw) hroom h

theorem actConfirmConfig (hroom : s.Roomy .service) (h : P s) : P s.actConfirmConfig := by
  unfold State.actConfirmConfig
  split
  · exact hP.placeService ServiceOp.placeable_confirm hroom h
  · exact hP.reply _ _ _ _ _ hroom.1 h

theorem actReadChannel (channel : Byte) (hroom : s.Roomy .service) (h : P s) : P (s.actReadChannel channel) := by
  unfold State.actReadChannel
  split <;> exact hP.reply _ _ _ _ _ hroom.1 h

theorem actAssignChannel (channel function : Byte) (hroom : s.Roomy .service) (h : P s) :
    P (s.actAssignChannel channel function) := by
  unfold State.actAssignChannel
  split
  · exact hP.reply _ _ _ _ _ hroom.1 h
  · rename_i hj
    exact hP.placeService (ServiceOp.placeable_of_judgeAssign hj) hroom h

theorem actDriveChannel (channel state : Byte) (hroom : s.Roomy .service) (h : P s) :
    P (s.actDriveChannel channel state) := by
  unfold State.actDriveChannel
  split
  · exact hP.reply _ _ _ _ _ hroom.1 h
  · exact hP.reply (s.withGeneral _ _) _ _ _ _ hroom.1 (hP.aside s _ {} h)

theorem actReadIncident (slot : Byte) (expected : Word32) (part : Byte) (hroom : s.Roomy .service) (h : P s) :
    P (s.actReadIncident slot expected part) :=
  hP.reply _ _ _ _ _ hroom.1
    (hP.aside s { s with recorder := s.recorder.afterRead slot part _ }
      { ring := Recorder.afterRead_ring .., buffers := Recorder.afterRead_buffers ..,
        directory := Recorder.afterRead_directory .. } h)

theorem judged {k : Byte} {v : SlotVerdict} (hv : ∀ op, v = .place op → op.Placeable s) (hroom : s.Roomy .service)
    (h : P s) : P (s.judged k v) := by
  cases v with
  | atOnce r data => exact hP.reply _ _ _ _ _ hroom.1 h
  | place op => exact hP.placeService (hv op rfl) hroom h

theorem actSetMatch (slot enabled condition axle : Byte) (threshold : Word16) (hroom : s.Roomy .service) (h : P s) :
    P (s.actSetMatch slot enabled condition axle threshold) := by
  unfold State.actSetMatch
  split
  · exact hP.reply _ _ _ _ _ hroom.1 h
  · exact hP.reply (s.withMatch _ _) _ _ _ _ hroom.1 (hP.aside s _ {} h)

theorem actRestart (hroom : s.Roomy .service) (h : P s) : P s.actRestart := by
  unfold State.actRestart
  split
  · have howed : (s.reply .service kindRestart .ok []).ports.restartOwed = true :=
      s.ports.restartOwed_place_restartReply
    rw [State.callRestart_of_owed howed]
    exact hP.called _ _ howed (hP.reply _ _ _ _ _ hroom.1 h)
  · exact hP.reply _ _ _ _ _ hroom.1 h

/-! ### Received frames and characters -/

theorem takeRequest (c : Instr) (h : P s) : P (s.takeRequest c) := by
  cases c with
  | cabDemand => exact hP.takeRequestFrame rfl (fun _ hr hu => hP.actCabDemand _ _ _ _ hr hu) h
  | releaseEmergency => exact hP.takeRequestFrame rfl (fun _ hr hu => hP.actReleaseEmergency _ hr hu) h
  | ledgerQuery => exact hP.takeRequestFrame rfl (fun _ hr hu => hP.reply _ _ _ _ _ hr.1 hu) h
  | capabilityReport axles cutOut hold =>
    exact hP.takeReport (p := .traction) (k := kindCapabilityReport) (n := 27) (act := .actCapabilityReport axles cutOut hold)
      (fun _ hu => hP.actCapabilityReport _ _ _ hu) h
  | alive => exact hP.takeReport (p := .supervision) (k := kindAlive) (n := 0) (act := id) (fun _ hu => hu) h
  | withdrawElectric => exact hP.takeRequestFrame rfl (fun _ hr hu => hP.actWithdrawElectric hr hu) h
  | resumeElectric => exact hP.takeRequestFrame rfl (fun _ hr hu => hP.actResumeElectric hr hu) h
  | intervene => exact hP.takeRequestFrame rfl (fun _ hr hu => hP.actIntervene _ hr hu) h
  | penalty => exact hP.takeRequestFrame rfl (fun _ hr hu => hP.actPenalty _ hr hu) h
  | releasePenalty => exact hP.takeRequestFrame rfl (fun _ hr hu => hP.actReleasePenalty hr hu) h
  | emergency => exact hP.takeRequestFrame rfl (fun _ hr hu => hP.actEmergency hr hu) h
  | freeze => exact hP.takeRequestFrame rfl (fun _ hr hu => hP.actFreeze _ hr hu) h
  | identify => exact hP.takeRequestFrame rfl (fun _ hr hu => hP.reply _ _ _ _ _ hr.1 hu) h
  | readConfig => exact hP.takeRequestFrame rfl (fun _ hr hu => hP.actReadConfig _ hr hu) h
  | writeConfig => exact hP.takeRequestFrame rfl (fun _ hr hu => hP.actWriteConfig _ _ hr hu) h
  | confirmConfig => exact hP.takeRequestFrame rfl (fun _ hr hu => hP.actConfirmConfig hr hu) h
  | readChannel => exact hP.takeRequestFrame rfl (fun _ hr hu => hP.actReadChannel _ hr hu) (hP.aside s _ {} h)
  | assignChannel => exact hP.takeRequestFrame rfl (fun _ hr hu => hP.actAssignChannel _ _ hr hu) h
  | driveChannel => exact hP.takeRequestFrame rfl (fun _ hr hu => hP.actDriveChannel _ _ hr hu) h
  | listIncidents => exact hP.takeRequestFrame rfl (fun _ hr hu => hP.reply _ _ _ _ _ hr.1 hu) h
  | readIncident => exact hP.takeRequestFrame rfl (fun _ hr hu => hP.actReadIncident _ _ _ hr hu) h
  | lockIncident => exact hP.takeRequestFrame rfl (fun _ hr hu => hP.judged (fun _ => ServiceOp.placeable_of_judgeLock) hr hu) h
  | unlockIncident => exact hP.takeRequestFrame rfl (fun _ hr hu => hP.judged (fun _ => ServiceOp.placeable_of_judgeUnlock) hr hu) h
  | eraseIncident => exact hP.takeRequestFrame rfl (fun _ hr hu => hP.judged (fun _ => ServiceOp.placeable_of_judgeErase) hr hu) h
  | setMatch => exact hP.takeRequestFrame rfl (fun _ hr hu => hP.actSetMatch _ _ _ _ _ hr hu) h
  | restart => exact hP.takeRequestFrame rfl (fun _ hr hu => hP.actRestart hr hu) h
  | _ => exact h

theorem frame (p : PortId) (k : Byte) (payload : List Byte) (h : P s) : P (s.frame p k payload) := by
  unfold State.frame
  split
  · exact h
  · split
    · exact hP.takeRequest _ h
    · exact hP.takeReport (fun _ hu => hu) h

theorem character (p : PortId) (c : LineChar) (h : P s) : P (s.character p c) := by
  unfold State.character
  dsimp only
  split
  · exact hP.withAssembly _ _ h
  · exact hP.frame _ _ _ (hP.withAssembly _ _ h)

theorem characters (p : PortId) (cs : List LineChar) (h : P s) : P (s.characters p cs) := by
  unfold State.characters
  induction cs generalizing s with
  | nil => exact h
  | cons c cs ih => exact ih (hP.character p c h)

/-! ### Timed events -/

theorem clip (i : Axle) (h : P s) : P (s.clip i) := by
  unfold State.clip
  dsimp only
  split
  · exact hP.order s { s.ledger with cmd := s.ledger.cmd.set i _ } .clip h
  · exact h

theorem blendPeriod (h : P s) : P s.blendPeriod :=
  hP.order
    (State.deliver { s with timers := { s.timers with blend := s.time } }
      ((deficitTrigger s.ledger (s.ledger.allocate s.cfg s.blendInputs)).map .triggerArrival))
    (s.ledger.allocate s.cfg s.blendInputs) .period (hP.deliver _ (hP.aside s _ {} h))

theorem truckSample (t : Truck) (loops : LoopCurrents) (h : P s) : P (s.truckSample t loops) :=
  hP.deliver _ (hP.aside s _ {} h)

theorem pipeSample (loops : LoopCurrents) (h : P s) : P (s.pipeSample loops) :=
  hP.deliver _ (hP.aside s _ { history := PipeWatch.length_history_sample _ _ _ } h)

theorem axleWindow (pulses : Vector PulseInput 8) (h : P s) : P (s.axleWindow pulses) :=
  hP.deliver _ (hP.aside s _
    { pulses := fun i hi => by
        simpa [Monitor.conclude, windowAxles] using (AxleRecord.length_window_le _ _ _ _ _ _).1 hi
      speeds := fun i hi => by
        simpa [Monitor.conclude, windowAxles] using (AxleRecord.length_window_le _ _ _ _ _ _).2 hi } h)

theorem slideWindow (c : WindowCompletion) (h : P s) : P (s.slideWindow c) := hP.deliver _ (hP.aside s _ {} h)

theorem slideEmergency (h : P s) : P s.slideEmergency := hP.aside s _ {} h

theorem driverHealth (d : Fin 8) (before after : DriverHealth) (h : P s) : P (s.driverHealth d before after) :=
  hP.deliver _ (hP.aside s _ {} h)

theorem arrivals (ts : List Trigger) (h : P s) : P (ts.foldl (fun t f => t.arrive f) s) := by
  induction ts generalizing s with
  | nil => exact h
  | cons t ts ih => exact ih (hP.arrive s t h)

theorem recorderSample (h : P s) : P s.recorderSample :=
  hP.arrivals _ (hP.aside _ _ {}
    (hP.nvTurn (hP.aside { s with recorder := s.recorder.takeSample s.sampleInputs } _ {}
      (hP.sample s s.sampleInputs h))))

/-! ### Completions -/

theorem afterCompletion {t : State} (hc : s.Completes t) (h : P s) : P t.afterCompletion :=
  hP.restartIfDue _ (hP.nvTurn (hP.completes s t hc h))

theorem sealComplete (h : P s) : P s.sealComplete := by
  unfold State.sealComplete
  split
  · exact hP.afterCompletion (.sealed ‹_›) h
  · exact h

theorem configurationStoreComplete (h : P s) : P s.configurationStoreComplete := by
  unfold State.configurationStoreComplete
  split
  · exact hP.afterCompletion (.stored ‹_›) h
  · exact h

theorem assignmentStoreComplete (h : P s) : P s.assignmentStoreComplete := by
  unfold State.assignmentStoreComplete
  split
  · exact hP.afterCompletion (.assigned ‹_›) h
  · exact h

theorem lockWriteComplete (h : P s) : P s.lockWriteComplete := by
  unfold State.lockWriteComplete
  split
  · exact hP.afterCompletion (.locked ‹_›) h
  · exact h

theorem unlockWriteComplete (h : P s) : P s.unlockWriteComplete := by
  unfold State.unlockWriteComplete
  split
  · exact hP.afterCompletion (.unlocked ‹_›) h
  · exact h

theorem eraseComplete (h : P s) : P s.eraseComplete := by
  unfold State.eraseComplete
  split
  · exact hP.afterCompletion (.erased ‹_›) h
  · exact h

/-! ### Commands -/

omit hP in
theorem powered {t : State} {f : State → State} (he : Machine.powered f s = .next t) (hf : P s → P (f s)) (h : P s) :
    P t := by
  rcases powered_next he with rfl | rfl
  · exact hf h
  · exact h

theorem delivered {t : State} {c : Instr} {f : State → State} (he : Machine.delivered c f s = .next t)
    (hf : ∀ u, P u → P (f u)) (h : P s) : P t :=
  powered he (hf _) (hP.aside s { s with deliveries := s.deliveries.erase c } {} h)

theorem freshness (m : Master) (h : P s) : P (s.freshness m) := by
  unfold State.freshness
  split
  · exact hP.loseLink m h
  · exact h

theorem driverHealthChange {d : Fin 8} {x : DriverHealth} {t : State}
    (he : execDriverHealthChange d x s = .next t) (h : P s) : P t := by
  rcases execDriverHealthChange_cases d x s with ⟨-, hx⟩ | ⟨-, hx⟩
  · cases hx.symm.trans he
    exact h
  · exact powered (hx.symm.trans he) (hP.driverHealth _ _ _) (hP.aside s (s.withDriverHealth d x) {} h)

/-- A predicate that each change keeps is kept by every command but those apart. -/
theorem exec {c : Instr} {t : State} (hc : apart c = false) (he : exec c s = .next t) (h : P s) : P t := by
  cases hf : encodeFrame c with
  | some x =>
    rw [exec_of_encodeFrame hf] at he
    exact powered he (hP.takeRequest c) h
  | none =>
    cases c with
    | unknownKind => exact powered he (hP.frame _ _ _) h
    | frameDiscarded => exact powered he (hP.characters _ _) h
    | intercharacterGapTimeout => exact powered he (fun hs => hP.withAssembly _ _ (hP.characters _ _ hs)) h
    | freshnessExpiry m => exact powered he (hP.freshness m) h
    | emergencyHoldExpiry => exact powered he (hP.event _ _ (.evaluateRaisers ..)) h
    | emergencyLineAsserted =>
      exact powered he (hP.event _ _ .takeLineAsserted) (hP.aside s { s with emergencyLine := true } {} h)
    | emergencyLineReleased =>
      exact powered he (hP.event _ _ (.takeLineReleased ..)) (hP.aside s { s with emergencyLine := false } {} h)
    | brakePipeConditionBegun => exact hP.delivered he (fun _ => hP.event _ _ .takePipeBegun) h
    | brakePipeConditionCleared => exact hP.delivered he (fun _ => hP.event _ _ (.takePipeCleared ..)) h
    | transducerHealthChange => exact hP.delivered he (fun _ => hP.event _ _ (.takeHealth ..)) h
    | clipRequest => exact hP.delivered he (fun _ => hP.clip _) h
    | emergencyNotice => exact hP.delivered he (fun u => hP.order u _ _) h
    | blendPeriod => exact powered he hP.blendPeriod h
    | truckSample => exact powered he (hP.truckSample _ _) h
    | pipeSample => exact powered he (hP.pipeSample _) h
    | axleWindow => exact powered he (hP.axleWindow _) h
    | slideWindow => exact hP.delivered he (fun _ => hP.slideWindow _) h
    | s8LeavesIdle => exact hP.delivered he (fun _ => hP.slideEmergency) h
    | recorderSample => exact powered he hP.recorderSample h
    | triggerArrival => exact hP.delivered he (fun u => hP.arrive u _) h
    | sealComplete => exact powered he hP.sealComplete h
    | configurationStoreComplete => exact powered he hP.configurationStoreComplete h
    | assignmentStoreComplete => exact powered he hP.assignmentStoreComplete h
    | lockWriteComplete => exact powered he hP.lockWriteComplete h
    | unlockWriteComplete => exact powered he hP.unlockWriteComplete h
    | eraseHeaderWritten => exact powered he (hP.headerWritten _) h
    | eraseComplete => exact powered he hP.eraseComplete h
    | driverHealthChange => exact hP.driverHealthChange he h
    | warmRestart => exact powered he (hP.restartIfDue _) h
    | restartLineReleased => cases he; exact hP.aside s _ {} h
    | sealedStateWritten => exact powered he (hP.sealedState _) h
    | standstillChange | transmissionEnds | restartLineAsserted | powerOnReset | powerLoss => cases hc
    | _ => cases hf

end

end State.Keeps

/-- A predicate that each change keeps, those apart too, is kept by every command but the loss of power. -/
theorem State.KeepsLive.exec {P : State → Prop} (hP : State.KeepsLive P) {c : Instr} {s t : State}
    (hc : ∀ x, c ≠ .powerLoss x) (he : Machine.exec c s = .next t) (h : P s) : P t := by
  have hK := hP.toKeeps
  cases ha : apart c with
  | false => exact hK.exec ha he h
  | true =>
    cases c with
    | standstillChange set => exact hK.delivered he (fun u => hP.standstill u set) h
    | transmissionEnds p => exact State.Keeps.powered he (fun _ => hK.restartIfDue _ (hP.ends s p h)) h
    | restartLineAsserted =>
      refine State.Keeps.powered he (fun hs => ?_) (hK.aside s { s with restartLine := true } {} h)
      unfold State.lineRestart
      split
      · exact hs
      · exact hP.calls _ _ hs
    | powerOnReset =>
      obtain rfl : s.powerOn = t := Host.Outcome.next.inj he
      exact hP.powerOn s h
    | powerLoss x => exact absurd rfl (hc x)
    | _ => cases ha

/-- A predicate that each change keeps, the loss of power too, is kept by every command. -/
theorem State.KeepsAll.exec {P : State → Prop} (hP : State.KeepsAll P) {c : Instr} {s t : State}
    (he : Machine.exec c s = .next t) (h : P s) : P t := by
  by_cases hc : ∃ x, c = .powerLoss x
  · obtain ⟨x, rfl⟩ := hc
    cases hp : s.powered with
    | true => cases (powered_on hp).symm.trans he; exact hP.powerLoss s x hp h
    | false => cases (powered_off hp).symm.trans he; exact h
  · exact hP.toKeepsLive.exec (fun x hx => hc ⟨x, hx⟩) he h

/-- What every command keeps, and the passing of time and of the queue, every step keeps. -/
theorem step_keeps {P : State → Prop} {s t : State} (hq : ∀ rest, P { s with pending := rest })
    (hexec : ∀ c u, Machine.exec c u = .next t → P u → P t) (htime : P { s with time := s.time + 1 }) (h : P s)
    (he : step s = .next t) : P t := by
  unfold Machine.step at he
  split at he
  · exact hexec _ _ he (hq _)
  · split at he
    · exact hexec _ _ he h
    · cases he
      split
      · exact htime
      · exact h

/-- A predicate that each change keeps, the loss of power too, is kept by every step. -/
theorem State.KeepsAll.step {P : State → Prop} (hP : State.KeepsAll P)
    (hq : ∀ s rest, P s → P { s with pending := rest }) {s t : State} (h : P s) (he : step s = .next t) : P t :=
  step_keeps (hq s · h) (fun _ _ => hP.exec) (hP.time s h) h he

end Sys2Proof.Machine

/-! SUPPORT. The laws of the demand table and of its record (R2, R3, R27) are kept by every command: the obligations O55 and O56. -/

namespace Sys2Proof.Machine

/-! ### Arbiters that an event has left -/

section
variable {a b : Arbiter} {s t : State}

theorem ArbiterInv.of_settle {cfg : ConfigSet} {now : Nat} (ha : a.Lawful) (ht : t.arbiter = Arbiter.settle cfg now a) :
    ArbiterInv t := by
  have h := Arbiter.settle_settled ha cfg now
  rw [← ht] at h
  exact ⟨h.lawful, h.conditioned, h.record⟩

theorem ArbiterInv.of_arbiter (h : ArbiterInv s) (ht : t.arbiter = s.arbiter) : ArbiterInv t where
  lawful := ht ▸ h.lawful
  conditioned := ht ▸ h.conditioned
  record := ht ▸ h.record

theorem Arbiter.Lawful.takes {f : Arbiter → Arbiter} (ha : a.Lawful) (hf : Arbiter.Takes f) : (f a).Lawful :=
  ha.of_same (hf.standing a) (hf.governor a) (hf.stack a)

/-- The empty demand table of a reset keeps the laws of R3 (R29). -/
theorem Arbiter.Lawful.cleared (line valid : Bool) : (Arbiter.cleared line valid).Lawful where
  governs g := by cases g <;> simp [Arbiter.standing, Arbiter.cleared, PerSource.get, Entry.cleared]
  held g := by cases g <;> simp [Arbiter.standing, Arbiter.cleared, PerSource.get, Entry.cleared]
  rising := .nil
  below g hg := by cases hg
  waiting g hg := by cases g <;> cases hg

theorem Arbiter.Lawful.takeReset (ha : a.Lawful) : a.takeReset.Lawful := ha.takes .takeReset

theorem Arbiter.Lawful.takeStandstill (ha : a.Lawful) (cfg : ConfigSet) (now : Nat) (set : Bool) :
    (a.takeStandstill cfg now set).Lawful := by
  have hset : Arbiter.Lawful { a with standstill := set } := ha.of_same (fun _ => rfl) rfl rfl
  unfold Arbiter.takeStandstill
  dsimp only
  split
  · exact hset.takes (.evaluateRaisers cfg now)
  · exact hset

end

/-! ### Resets -/

section
variable (s : State)

/-- The arbiter at the end of a reset has taken the one event that ends it (R29, R30). -/
theorem State.concludeReset_arbiter :
    s.concludeReset.arbiter = Arbiter.settle s.cfg s.time s.arbiter.takeReset := by
  unfold State.concludeReset
  dsimp only
  rw [State.nvTurn_arbiter]
  split <;> rfl

theorem State.warmRestart_arbiter (cause : ResetCause) :
    (s.warmRestart cause).arbiter =
      Arbiter.settle s.cfg s.time (Arbiter.cleared s.emergencyLine (s.store.state = .valid)).takeReset :=
  State.concludeReset_arbiter _

theorem State.powerOn_arbiter :
    s.powerOn.arbiter = Arbiter.settle (Store.afterPowerOn s.array.image).live 0
      (Arbiter.cleared s.emergencyLine ((Store.afterPowerOn s.array.image).state = .valid)).takeReset :=
  State.concludeReset_arbiter _

theorem ArbiterInv.warmRestart (cause : ResetCause) : ArbiterInv (s.warmRestart cause) :=
  .of_settle (Arbiter.Lawful.cleared _ _).takeReset (s.warmRestart_arbiter cause)

theorem ArbiterInv.powerOn : ArbiterInv s.powerOn :=
  .of_settle (Arbiter.Lawful.cleared _ _).takeReset s.powerOn_arbiter

/-- A part without power holds the arbiter of State.reset. -/
theorem ArbiterInv.dark : ArbiterInv s.dark :=
  .of_settle (Arbiter.Lawful.cleared false _).takeReset rfl

theorem ArbiterInv.restartIfDue {s : State} (h : ArbiterInv s) : ArbiterInv s.restartIfDue := by
  rcases s.restartIfDue_cases with he | ⟨cause, -, -, -, he⟩ <;> rw [he]
  · exact h
  · exact .warmRestart s cause

end

/-! ### Every command -/

theorem ArbiterInv.event {s : State} {f : Arbiter → Arbiter} (h : ArbiterInv s) (hf : Arbiter.Takes f) :
    ArbiterInv (s.arbiterEvent f) := .of_settle (h.lawful.takes hf) rfl

theorem ArbiterInv.keepsEvents : State.KeepsEvents ArbiterInv where
  aside _ _ hst h := h.of_arbiter hst.arbiter
  lines _ _ _ h := h.of_arbiter rfl
  event _ _ hf h := h.event hf

theorem ArbiterInv.configStored {s : State} (h : ArbiterInv s) (w : Option (Param × Nat)) :
    ArbiterInv (s.configStored w) := by
  have hstored : ArbiterInv (s.storeWritten w) := by
    refine ArbiterInv.event (s := { s with store := ⟨writtenSet s.store.live w, .valid, s.store.sequence + 1⟩ })
      (h.of_arbiter rfl) ?_
    split
    · exact .takeConfigValid
    · exact .id
  refine ArbiterInv.of_arbiter ?_ (State.deferredReply_arbiter ..)
  cases w with
  | none => exact hstored.of_arbiter rfl
  | some pv => exact (ArbiterInv.keepsEvents.remeasured pv.1 hstored).of_arbiter rfl

theorem ArbiterInv.completes {s t : State} (hc : s.Completes t) (h : ArbiterInv s) : ArbiterInv t := by
  cases hc with
  | sealed => exact h.of_arbiter rfl
  | stored => exact h.configStored _
  | assigned => exact h.of_arbiter (State.deferredReply_arbiter ..)
  | locked => exact h.of_arbiter (State.deferredReply_arbiter ..)
  | unlocked => exact h.of_arbiter (State.deferredReply_arbiter ..)
  | erased => exact h.of_arbiter (by rw [State.deferredReply_arbiter, State.erased_rest])

theorem ArbiterInv.keepsAll : State.KeepsAll ArbiterInv where
  toKeepsEvents := ArbiterInv.keepsEvents
  reply _ _ _ _ _ _ h := h.of_arbiter rfl
  order _ _ _ h := h.of_arbiter rfl
  arrive _ _ h := h.of_arbiter rfl
  sample _ _ h := h.of_arbiter rfl
  placeSeal _ h := h.of_arbiter (State.placeSeal_arbiter _)
  grant _ h := h.of_arbiter (State.grant_arbiter _)
  placed _ _ _ _ _ _ h := h.of_arbiter rfl
  called _ _ _ h := h.of_arbiter rfl
  sealedState s h := h.of_arbiter (by unfold State.sealedState; split <;> rfl)
  headerWritten s h := h.of_arbiter (by unfold State.eraseHeaderWritten; split <;> rfl)
  completes _ _ hc h := (h.completes hc).of_arbiter rfl
  restartIfDue _ h := h.restartIfDue
  standstill s set h := .of_settle (h.lawful.takeStandstill s.cfg s.time set) rfl
  ends _ _ h := h.of_arbiter rfl
  calls s cause h := ArbiterInv.restartIfDue (s := { s with restart := some (s.restart.getD cause) }) (h.of_arbiter rfl)
  powerOn s _ := .powerOn s
  powerLoss s x _ _ := .dark (s.interrupt x)
  time _ h := h.of_arbiter rfl

/-- Settles O55: the laws are kept by each change of which every step is made. -/
theorem arbiterKeepsItsLaws : Obligations.ArbiterKeepsItsLaws := by
  unfold Obligations.ArbiterKeepsItsLaws
  intro s t h hstep
  exact ArbiterInv.keepsAll.step (fun _ _ hs => hs.of_arbiter rfl) h hstep

/-! ### The record (R27) -/

section
variable {a : Arbiter}

/-- The larger of an effort and that of an entry, where the entry is non-idle and of the mode (R28). -/
def Arbiter.larger (a : Arbiter) (m : Mode) (best : Nat) (s : Source) : Nat :=
  if a.nonIdle s && sourceMode s = m then max best (a.inForce s) else best

theorem Arbiter.largest_eq_foldl (a : Arbiter) (m : Mode) : a.largest m = Source.all.foldl (a.larger m) 0 := rfl

theorem Arbiter.foldl_larger_spec (m : Mode) (l : List Source) (best : Nat) :
    best ≤ l.foldl (a.larger m) best
    ∧ (∀ g ∈ l, sourceMode g = m → a.nonIdle g = true → a.inForce g ≤ l.foldl (a.larger m) best)
    ∧ (l.foldl (a.larger m) best = best
      ∨ ∃ g, sourceMode g = m ∧ a.nonIdle g = true ∧ a.inForce g = l.foldl (a.larger m) best) := by
  induction l generalizing best with
  | nil => simp
  | cons k ks ih =>
    obtain ⟨hle, hall, hsome⟩ := ih (a.larger m best k)
    by_cases hk : a.nonIdle k = true ∧ sourceMode k = m
    · have hlarger : a.larger m best k = max best (a.inForce k) := if_pos (by simp [hk])
      rw [List.foldl_cons]
      rw [hlarger] at hle hall hsome ⊢
      refine ⟨Nat.le_trans (Nat.le_max_left _ _) hle, fun g hg hm hn => ?_, ?_⟩
      · rcases List.mem_cons.mp hg with rfl | hg
        · exact Nat.le_trans (Nat.le_max_right _ _) hle
        · exact hall g hg hm hn
      · rcases hsome with he | hex
        · rw [he]
          rcases Nat.le_total best (a.inForce k) with h | h
          · exact .inr ⟨k, hk.2, hk.1, (Nat.max_eq_right h).symm⟩
          · exact .inl (Nat.max_eq_left h)
        · exact .inr hex
    · have hlarger : a.larger m best k = best := if_neg (by simpa using hk)
      rw [List.foldl_cons]
      rw [hlarger] at hle hall hsome ⊢
      refine ⟨hle, fun g hg hm hn => ?_, hsome⟩
      rcases List.mem_cons.mp hg with rfl | hg
      · exact absurd ⟨hn, hm⟩ hk
      · exact hall g hg hm hn

/-- The largest in-force effort of a mode's non-idle entries is below none of them, and is 0 or one of them (R28). -/
theorem Arbiter.largest_spec (a : Arbiter) (m : Mode) :
    (∀ g, sourceMode g = m → a.nonIdle g = true → a.inForce g ≤ a.largest m)
    ∧ (a.largest m = 0 ∨ ∃ g, sourceMode g = m ∧ a.nonIdle g = true ∧ a.inForce g = a.largest m) := by
  obtain ⟨-, hall, hsome⟩ := Arbiter.foldl_larger_spec (a := a) m Source.all 0
  exact ⟨fun g => hall g (Source.mem_all g), hsome⟩

theorem sourceLevel_le (g : Source) : sourceLevel g ≤ 7 := by cases g <;> decide

theorem Arbiter.authority_le (a : Arbiter) : a.authority ≤ 7 := by
  unfold Arbiter.authority
  split
  · exact Nat.zero_le _
  · exact sourceLevel_le _

theorem Arbiter.Lawful.permitted_iff (ha : a.Lawful) :
    a.buildRecord.electricPermitted = false ↔ a.standing .s7 = .governing ∨ a.standing .s8 = .governing := by
  rw [ha.governs, ha.governs]
  change (decide (a.governor ≠ some .s7) && decide (a.governor ≠ some .s8)) = false ↔ _
  rw [Bool.and_eq_false_iff, decide_eq_false_iff_not, decide_eq_false_iff_not, Decidable.not_not, Decidable.not_not]

end

/-- Settles O56: the record that every command leaves is the one built of the demand table. -/
theorem recordHoldsTheDemands : Obligations.RecordHoldsTheDemands := by
  unfold Obligations.RecordHoldsTheDemands
  intro c s t h he
  obtain ⟨hlawful, -, hrecord⟩ := ArbiterInv.keepsAll.exec he h
  rw [hrecord]
  refine ⟨rfl, t.arbiter.authority_le, fun g => (hlawful.governs g).symm, fun m v hmv => ?_, rfl, rfl, rfl,
    hlawful.permitted_iff, rfl, ?_, rfl⟩
  · rcases hmv with hmv | hmv <;> cases hmv <;> exact t.arbiter.largest_spec _
  · simp [Arbiter.buildRecord]

end Sys2Proof.Machine

/-! SUPPORT. What a turn of the NV store controller can do, and the laws of the configuration store, the channel table and the service operation (R147, R167, R180, R182): the obligation O59. -/

namespace Sys2Proof.Machine

/-! ### A turn of the controller (R130, R186, R189) -/

section
variable (s : State)

/-- A SEAL that is granted takes the slot that R131 chooses, or nothing where there is none. -/
theorem State.grantSeal_cases (i : Fin 2) :
    s.grantSeal i = s
    ∨ ∃ slot denied, chooseSlot s.recorder.directory = some slot
      ∧ s.grantSeal i = { s with
          nv := { s.nv with
            inFlight := some (.sealing i slot ((s.recorder.buffers[i]).calledEmergency
              && (lockedCount s.recorder.directory < maxLocked : Bool)) false)
            recorderWait := none }
          recorder := (s.recorder.withBuffer i
            { s.recorder.buffers[i] with state := .sealing, autoLockDenied := denied }).withEntry slot
              ⟨.sealing, false, (s.recorder.buffers[i]).sequence, (s.recorder.buffers[i]).firstKind⟩ } := by
  unfold State.grantSeal
  split
  · exact .inl rfl
  · exact .inr ⟨_, _, ‹_›, rfl⟩

/-- A service operation that is granted is in flight, where it still writes, and is answered at once where it does not (R139, R142). -/
theorem State.grantService_cases (op : ServiceOp) :
    (op.WritesAt s.recorder
      ∧ s.grantService op = { s with nv := { s.nv with inFlight := some (.service op false), serviceWait := none } })
    ∨ ∃ r, s.grantService op = s.grantedNothing r := by
  by_cases hw : op.WritesAt s.recorder
  · exact .inl ⟨hw, State.grantService_of_writesAt hw⟩
  · refine .inr ?_
    cases op with
    | configStore | assignStore | unlock => exact absurd trivial hw
    | lock i noted =>
      simp only [State.grantService]
      split
      · exact ⟨_, rfl⟩
      · rename_i hseq
        rw [if_pos (Nat.not_lt.mp fun hroom => hw ⟨Decidable.not_not.mp hseq, hroom⟩)]
        exact ⟨_, rfl⟩
    | erase i noted =>
      simp only [State.grantService]
      exact ⟨_, if_pos hw⟩

/-- A grant: none, or a SEAL, or a service operation while no SEAL waits (R186, R189). -/
theorem State.grant_cases :
    s.grant = s
    ∨ s.restart = none ∧ s.nv.inFlight = none
      ∧ ((∃ b, s.nv.recorderWait = some b ∧ s.grant = s.grantSeal b)
        ∨ ∃ op, s.nv.recorderWait = none ∧ s.nv.serviceWait = some op ∧ s.grant = s.grantService op) := by
  unfold State.grant
  split
  · exact .inl rfl
  · rename_i h
    simp only [Bool.or_eq_true, not_or, Bool.not_eq_true, Option.isSome_eq_false_iff, Option.isNone_iff_eq_none] at h
    split
    · exact .inr ⟨h.1, h.2, .inl ⟨_, ‹_›, rfl⟩⟩
    · split
      · exact .inr ⟨h.1, h.2, .inr ⟨_, ‹_›, ‹_›, rfl⟩⟩
      · exact .inl rfl

/-- What a service operation that writes nothing leaves: nothing waiting, and no reply owed (R167). -/
theorem State.grantedNothing_nv (r : Result) : (s.grantedNothing r).nv = { s.nv with serviceWait := none } := by
  simp [State.grantedNothing]

theorem State.deferredReply_outstanding (r : Result) (d : List Byte) :
    (s.deferredReply r d).ports.outstanding = none := by
  rcases State.deferredReply_cases r d s with ⟨h, he⟩ | ⟨k, -, he⟩ <;> rw [he]
  exact h

theorem State.serviceInFlight_of_none (h : s.nv.inFlight = none) : s.serviceInFlight = none := by
  simp [State.serviceInFlight, h]

theorem State.serviceInFlight_of_service {op : ServiceOp} {x : Bool} (h : s.nv.inFlight = some (.service op x)) :
    s.serviceInFlight = some op := by
  simp [State.serviceInFlight, h]

end

/-! ### The laws of the configuration store -/

section
variable {s t : State}

/-- The laws speak of the live set, the table, the controller and the outstanding request alone. -/
theorem ConfigInv.of_same (h : ConfigInv s) (hlive : t.store.live = s.store.live) (htable : t.matrix.table = s.matrix.table)
    (hfly : t.serviceInFlight = s.serviceInFlight) (hwait : t.nv.serviceWait = s.nv.serviceWait)
    (howed : t.ports.outstanding = s.ports.outstanding) : ConfigInv t where
  legal := by rw [hlive]; exact h.legal
  table := by rw [htable]; exact h.table
  owed := by rw [howed, hfly, hwait]; exact h.owed
  single := by rw [hfly, hwait]; exact h.single
  flying := by rw [hfly, hlive, htable]; exact h.flying
  waiting := by rw [hwait, hlive, htable]; exact h.waiting

/-- Without a service operation the laws are that the live set is legal and the table allowed. -/
theorem ConfigInv.of_none (hlive : t.store.live.legal = true) (htable : tableOk t.matrix.table = true)
    (hfly : t.serviceInFlight = none) (hwait : t.nv.serviceWait = none) : ConfigInv t where
  legal := hlive
  table := htable
  owed _ := ⟨hfly, hwait⟩
  single := .inl hfly
  flying op hop := by rw [hfly] at hop; cases hop
  waiting op hop := by rw [hwait] at hop; cases hop

theorem ConfigInv.keepsEvents : State.KeepsEvents ConfigInv where
  aside _ _ hst h := h.of_same (by rw [hst.store]) hst.table (by simp only [State.serviceInFlight, hst.nv]) (by rw [hst.nv])
    (by rw [hst.ports])
  lines _ _ hl h := h.of_same rfl rfl rfl rfl hl.outstanding
  event _ _ _ h := h.of_same rfl rfl rfl rfl rfl

/-- A service operation is granted (R167, R186). -/
theorem ConfigInv.grantService {op : ServiceOp} (h : ConfigInv s) (hfree : s.nv.inFlight = none)
    (hop : s.nv.serviceWait = some op) : ConfigInv (s.grantService op) := by
  have howed : s.ports.outstanding ≠ none := fun ho => by
    have hnone := (h.owed ho).2
    rw [hop] at hnone
    cases hnone
  rcases s.grantService_cases op with ⟨-, he⟩ | ⟨r, he⟩ <;> rw [he]
  · refine ⟨h.legal, h.table, fun ho => absurd ho howed, .inr rfl, fun x hx => ?_, fun x hx => by cases hx⟩
    cases hx
    exact h.waiting op hop
  · refine .of_none ?_ ?_ (State.serviceInFlight_of_none _ ?_) ?_
    · simpa using h.legal
    · simpa using h.table
    · simp [State.grantedNothing_nv, hfree]
    · simp [State.grantedNothing_nv]

theorem ConfigInv.grant (h : ConfigInv s) : ConfigInv s.grant := by
  rcases s.grant_cases with he | ⟨-, hfree, ⟨b, -, he⟩ | ⟨op, -, hop, he⟩⟩ <;> rw [he]
  · exact h
  · rcases s.grantSeal_cases b with hs | ⟨slot, denied, -, hs⟩ <;> rw [hs]
    · exact h
    · exact h.of_same rfl rfl (State.serviceInFlight_of_none s hfree).symm rfl rfl
  · exact h.grantService hfree hop

theorem ConfigInv.keepsTurns : State.KeepsTurns ConfigInv where
  toKeepsEvents := ConfigInv.keepsEvents
  order _ _ _ h := h.of_same rfl rfl rfl rfl (Ports.start_outstanding _ _)
  placeSeal s h := by
    rw [State.placeSeal_eq]
    exact h.of_same rfl rfl rfl rfl rfl
  grant _ h := h.grant

/-! ### Completions -/

/-- What the events of a configuration store's completion leave of the store, the table and the controller. -/
theorem State.storeWritten_kept (w : Option (Param × Nat)) (s : State) :
    (s.configStored w).store.live = writtenSet s.store.live w ∧ (s.configStored w).matrix.table = s.matrix.table
    ∧ (s.configStored w).nv = s.nv := by
  have same : State.KeepsEvents fun u => u.store.live = writtenSet s.store.live w
      ∧ u.matrix.table = s.matrix.table ∧ u.nv = s.nv :=
    { aside := fun _ _ hst h => by rwa [hst.store, hst.table, hst.nv]
      lines := fun _ _ _ h => h
      event := fun _ _ _ h => h }
  unfold State.configStored
  rw [State.deferredReply_store, State.deferredReply_matrix, State.deferredReply_nv]
  cases w with
  | none => exact ⟨rfl, rfl, rfl⟩
  | some pv => exact same.remeasured (s := s.storeWritten (some pv)) pv.1 ⟨rfl, rfl, rfl⟩

/-- A service operation that has completed leaves none waiting or in flight. -/
theorem ConfigInv.landed {op : ServiceOp} {x : Bool} (h : ConfigInv s) (hop : s.nv.inFlight = some (.service op x))
    (hnv : t.nv = s.nv) (hlive : t.store.live.legal = true) (htable : tableOk t.matrix.table = true) :
    ConfigInv t.landed := by
  refine .of_none hlive htable rfl ?_
  rcases h.single with hnone | hnone
  · rw [State.serviceInFlight_of_service s hop] at hnone
    cases hnone
  · exact (congrArg NvController.serviceWait hnv).trans hnone

theorem ConfigInv.completes (hc : s.Completes t) (h : ConfigInv s) : ConfigInv t.landed := by
  cases hc with
  | sealed hop => exact h.of_same rfl rfl (by simp [State.serviceInFlight, State.landed, hop]) rfl rfl
  | stored hop =>
    obtain ⟨hlive, htable, hnv⟩ := s.storeWritten_kept ‹_›
    refine h.landed hop hnv ?_ (htable ▸ h.table)
    have hsound := h.flying _ (State.serviceInFlight_of_service s hop)
    rw [hlive]
    exact hsound
  | assigned hop =>
    refine h.landed hop (State.deferredReply_nv ..) ?_ ?_
    · rw [State.deferredReply_store]; exact h.legal
    · rw [State.deferredReply_matrix]; exact h.flying _ (State.serviceInFlight_of_service s hop)
  | locked hop | unlocked hop =>
    refine h.landed hop (State.deferredReply_nv ..) ?_ ?_
    · rw [State.deferredReply_store]; exact h.legal
    · rw [State.deferredReply_matrix]; exact h.table
  | erased hop =>
    refine h.landed hop ?_ ?_ ?_
    · rw [State.deferredReply_nv, State.erased_rest]
    · rw [State.deferredReply_store, State.erased_rest]; exact h.legal
    · rw [State.deferredReply_matrix, State.erased_rest]; exact h.table

/-! ### Resets -/

theorem ConfigSet.defaults_legal : ConfigSet.defaults.legal = true := by decide

theorem tableOk_default : tableOk defaultTable = true := by decide

/-- What a power-on reset loads is legal, whatever the image (R149, R184). -/
theorem afterPowerOn_legal (i : ConfigImage) :
    (Store.afterPowerOn i).live.legal = true ∧ tableOk (tableAfterPowerOn i) = true := by
  unfold Store.afterPowerOn tableAfterPowerOn
  split
  · rename_i hi
    simp only [ConfigImage.good, Bool.and_eq_true] at hi
    exact ⟨hi.1.2, hi.2⟩
  · exact ⟨ConfigSet.defaults_legal, tableOk_default⟩

theorem ConfigInv.warmRestart (h : ConfigInv s) (cause : ResetCause) : ConfigInv (s.warmRestart cause) :=
  ConfigInv.keepsTurns.concludeReset fun _ => .of_none h.legal h.table rfl rfl

theorem ConfigInv.powerOn (s : State) : ConfigInv s.powerOn :=
  ConfigInv.keepsTurns.concludeReset fun _ =>
    .of_none (afterPowerOn_legal s.array.image).1 (afterPowerOn_legal s.array.image).2 rfl rfl

theorem ConfigInv.restartIfDue (h : ConfigInv s) : ConfigInv s.restartIfDue := by
  rcases s.restartIfDue_cases with he | ⟨cause, -, -, -, he⟩ <;> rw [he]
  · exact h
  · exact h.warmRestart cause

/-! ### Every command -/

theorem ConfigInv.placed {k : Byte} {op : ServiceOp} (hop : op.Placeable s) (howed : s.ports.outstanding = none)
    (h : ConfigInv s) :
    ConfigInv { s with nv := { s.nv with serviceWait := some op }, ports := { s.ports with outstanding := some k } } where
  legal := h.legal
  table := h.table
  owed ho := by cases ho
  single := .inl (h.owed howed).1
  flying := h.flying
  waiting x hx := by cases hx; exact hop.1 h.legal h.table

theorem ConfigInv.keepsAll : State.KeepsAll ConfigInv where
  toKeepsTurns := ConfigInv.keepsTurns
  reply _ _ _ _ _ _ h := h.of_same rfl rfl rfl rfl (Ports.place_outstanding ..)
  arrive _ _ h := h.of_same rfl rfl rfl rfl rfl
  sample _ _ h := h.of_same rfl rfl rfl rfl rfl
  placed _ _ _ hop _ howed h := h.placed hop howed
  called _ _ _ h := h.of_same rfl rfl rfl rfl rfl
  sealedState s h := by
    unfold State.sealedState
    split
    · rename_i hop
      exact h.of_same rfl rfl (by simp [State.serviceInFlight, hop]) rfl rfl
    · exact h
  headerWritten s h := by
    unfold State.eraseHeaderWritten
    split
    · rename_i hop
      rw [State.emptied_rest]
      exact h.of_same rfl rfl (by simp [State.serviceInFlight, hop]) rfl rfl
    · exact h
  completes _ _ hc h := h.completes hc
  restartIfDue _ h := h.restartIfDue
  standstill _ _ h := h.of_same rfl rfl rfl rfl rfl
  ends s p h := h.of_same rfl rfl rfl rfl (by
    unfold Ports.endTransmission
    split
    · rfl
    · exact Ports.start_outstanding _ _)
  calls s cause h := ConfigInv.restartIfDue (s := { s with restart := some (s.restart.getD cause) })
    (h.of_same rfl rfl rfl rfl rfl)
  powerOn s _ := .powerOn s
  powerLoss s x _ _ := .of_none (afterPowerOn_legal _).1 tableOk_default rfl rfl
  time _ h := h.of_same rfl rfl rfl rfl rfl

/-- Settles O59: the laws are kept by each change of which every step is made. -/
theorem configurationStaysLegal : Obligations.ConfigurationStaysLegal := by
  unfold Obligations.ConfigurationStaysLegal
  intro s t h hstep
  exact ConfigInv.keepsAll.step (fun _ _ hs => hs.of_same rfl rfl rfl rfl rfl) h hstep

end

end Sys2Proof.Machine

/-! SUPPORT. A part without power (log 7): the obligation O3. -/

namespace Sys2Proof.Machine

section
variable {s : State}

/-- What a command may change of a part without power: the deliveries, the two line pins and the drivers' load health (log 7). -/
structure State.Unmoved (c : Instr) (s t : State) : Prop where
  deliveries : t.deliveries = s.deliveries ∨ t.deliveries = s.deliveries.erase c
  rest : t = { s with
    deliveries := t.deliveries
    emergencyLine := t.emergencyLine
    restartLine := t.restartLine
    matrix := { s.matrix with health := t.matrix.health } }

theorem State.Unmoved.self (c : Instr) (s : State) : s.Unmoved c s := ⟨.inl rfl, rfl⟩

theorem exec_unpowered {c : Instr} (h : s.powered = false) (hc : c ≠ .powerOnReset) :
    ∃ t, exec c s = .next t ∧ s.Unmoved c t := by
  cases hf : encodeFrame c with
  | some x => exact ⟨s, (exec_of_encodeFrame hf s).trans (powered_off h), .self c s⟩
  | none =>
    cases c with
    | brakePipeConditionBegun | brakePipeConditionCleared | transducerHealthChange | standstillChange | clipRequest
    | emergencyNotice | slideWindow | s8LeavesIdle | triggerArrival =>
      exact ⟨{ s with deliveries := s.deliveries.erase _ }, powered_off (s := { s with deliveries := _ }) h, .inr rfl, rfl⟩
    | emergencyLineAsserted | emergencyLineReleased =>
      exact ⟨{ s with emergencyLine := _ }, powered_off (s := { s with emergencyLine := _ }) h, .inl rfl, rfl⟩
    | restartLineAsserted => exact ⟨{ s with restartLine := true }, powered_off (s := { s with restartLine := _ }) h, .inl rfl, rfl⟩
    | restartLineReleased => exact ⟨{ s with restartLine := false }, rfl, .inl rfl, rfl⟩
    | driverHealthChange d x =>
      rcases execDriverHealthChange_cases d x s with ⟨-, he⟩ | ⟨-, he⟩
      · exact ⟨s, he, .self _ s⟩
      · exact ⟨s.withDriverHealth d x, he.trans (powered_off h), .inl rfl, rfl⟩
    | powerOnReset => exact absurd rfl hc
    | unknownKind | frameDiscarded | intercharacterGapTimeout | transmissionEnds | freshnessExpiry | emergencyHoldExpiry
    | blendPeriod | truckSample | pipeSample | axleWindow | recorderSample | sealComplete | sealedStateWritten
    | configurationStoreComplete | assignmentStoreComplete | lockWriteComplete | unlockWriteComplete
    | eraseHeaderWritten | eraseComplete | warmRestart | powerLoss => exact ⟨s, powered_off h, .self _ s⟩
    | _ => cases hf

/-- Settles O3: by the shape of each command, whose effect on a part without power is that on its pins and deliveries. -/
theorem noPowerNoEffect : Obligations.NoPowerNoEffect := by
  unfold Obligations.NoPowerNoEffect
  intro c s h hc
  obtain ⟨t, he, ht⟩ := exec_unpowered h hc
  exact ⟨t, he, ht.deliveries, ht.rest⟩

end

end Sys2Proof.Machine

/-! SUPPORT. The laws of the incident store (R131, R133, R139): locked slots are counted, stored headers are read back, and each change keeps the laws: the obligation O60. -/

namespace Sys2Proof.Machine

/-! ### Vectors, and the count of locked slots -/

theorem getElem_set_fin {α : Type} {n : Nat} (v : Vector α n) (i j : Fin n) (x : α) :
    (v.set i x)[j] = if j = i then x else v[j] := by
  rw [Fin.getElem_fin, Vector.getElem_set]
  simp [Fin.ext_iff, eq_comm]

theorem mem_allSlots (i : Fin 12) : i ∈ allSlots := by revert i; decide

theorem nodup_allSlots : allSlots.Nodup := by decide

section
variable {d e : Vector DirEntry 12}

theorem lockedCount_mono (h : ∀ i : Fin 12, (e[i]).lock = true → (d[i]).lock = true) : lockedCount e ≤ lockedCount d := by
  unfold lockedCount
  simp only [← List.countP_eq_length_filter]
  exact List.countP_mono_left fun i _ => h i

/-- A directory in which one entry alone may be locked anew has at most one locked slot more. -/
theorem lockedCount_le_succ (k : Fin 12) (h : ∀ i : Fin 12, i ≠ k → (e[i]).lock = true → (d[i]).lock = true) :
    lockedCount e ≤ lockedCount d + 1 := by
  unfold lockedCount
  have hsub : allSlots.filter (fun i => (e[i]).lock) ⊆ k :: allSlots.filter (fun i => (d[i]).lock) := by
    intro i hi
    obtain ⟨hmem, hlock⟩ := List.mem_filter.mp hi
    by_cases hk : i = k
    · exact List.mem_cons.mpr (.inl hk)
    · exact List.mem_cons.mpr (.inr (List.mem_filter.mpr ⟨hmem, h i hk hlock⟩))
  exact List.Nodup.length_le_of_subset (List.Pairwise.filter _ nodup_allSlots) hsub

theorem scanSlots_get (slots : Vector NvSlot 12) (i : Fin 12) : (scanSlots slots)[i] = (slots[i]).scan := by
  simp [scanSlots]

end

/-! ### Headers as the scan reads them (R135) -/

/-- A slot that the scan finds locked has the state byte SEALED and a set lock byte. -/
theorem NvSlot.fields_of_scan_lock {x : NvSlot} (h : x.scan.lock = true) : x.field 0 1 = 2 ∧ x.field 1 1 = 1 := by
  unfold NvSlot.scan at h
  dsimp only at h
  split at h
  · cases h
  · split at h
    · rename_i hs
      exact ⟨hs.1, by simpa using h⟩
    · cases h

/-- A slot that the scan finds locked is SEALED. -/
theorem NvSlot.sealed_of_scan_lock {x : NvSlot} (h : x.scan.lock = true) : x.scan.state = .sealed := by
  unfold NvSlot.scan at h ⊢
  dsimp only at h ⊢
  split at h
  · cases h
  · rename_i h0
    rw [if_neg h0]
    split at h
    · rename_i hs
      rw [if_pos hs]
    · cases h

theorem NvSlot.scan_state_ne_sealing (x : NvSlot) : x.scan.state ≠ .sealing := by
  unfold NvSlot.scan
  dsimp only
  split
  · simp
  · split <;> simp

/-- The first two bytes of a header. -/
theorem NvSlot.field_zero (a b : Byte) (header body : List Byte) : NvSlot.field ⟨a :: b :: header, body⟩ 0 1 = a.toNat := by
  simp [NvSlot.field, numberAt, numberOf]

theorem NvSlot.field_one (a b : Byte) (header body : List Byte) : NvSlot.field ⟨a :: b :: header, body⟩ 1 1 = b.toNat := by
  simp [NvSlot.field, numberAt, numberOf]

/-- A sealed slot is locked for the scan only where the seal locked it (R132). -/
theorem sealedSlot_scan_lock {b : Buffer} {st : SlotState} {lock : Bool} (h : (sealedSlot b st lock).scan.lock = true) :
    lock = true := by
  have h1 := (NvSlot.fields_of_scan_lock h).2
  rw [sealedSlot, List.append_assoc, List.cons_append, List.cons_append, NvSlot.field_one] at h1
  cases lock
  · cases h1
  · rfl

/-- A slot whose header has been erased is not locked (R142). -/
theorem erasedHeader_scan_lock (k : Nat) (header body : List Byte) :
    (NvSlot.scan ⟨erasedHeader k header, body⟩).lock = false := by
  refine Bool.eq_false_iff.mpr fun h => ?_
  have h0 := (NvSlot.fields_of_scan_lock h).1
  rw [erasedHeader, List.append_assoc, List.cons_append, List.cons_append, NvSlot.field_zero] at h0
  cases h0

theorem erasedHeader_field_zero (k : Nat) (header body : List Byte) :
    NvSlot.field ⟨erasedHeader k header, body⟩ 0 1 = 0 := by
  rw [erasedHeader, List.append_assoc, List.cons_append, List.cons_append, NvSlot.field_zero]
  rfl

/-- A seal that power loss cut off in its header leaves no locked slot (R132). -/
theorem interruptedSlot_scan_lock (k : Nat) (b : Buffer) (n : Nat) (crc : Bool) :
    (interruptedSlot k b n crc).scan.lock = false := by
  refine Bool.eq_false_iff.mpr fun h => ?_
  have h0 := (NvSlot.fields_of_scan_lock h).1
  rw [interruptedSlot, List.append_assoc, List.cons_append, List.cons_append, NvSlot.field_zero] at h0
  exact absurd h0 (by decide)

theorem numberAt_set_one_zero : ∀ header : List Byte, numberAt (header.set 1 0) 1 1 = 0
  | [] | [_] | _ :: _ :: _ => by simp [numberAt, numberOf]

/-- A header whose lock byte has been cleared is not locked (R140). -/
theorem NvSlot.withLock_scan_lock (x : NvSlot) : (x.withLock false).scan.lock = false := by
  refine Bool.eq_false_iff.mpr fun h => ?_
  have h1 : (x.withLock false).field 1 1 = 1 := (NvSlot.fields_of_scan_lock h).2
  have h0 : (x.withLock false).field 1 1 = 0 := numberAt_set_one_zero x.header
  rw [h0] at h1
  cases h1

/-- A slot whose state byte is EMPTY is not locked, whatever its body. -/
theorem NvSlot.scan_lock_of_empty {x : NvSlot} (h : x.field 0 1 = 0) : x.scan.lock = false := by
  refine Bool.eq_false_iff.mpr fun hl => ?_
  rw [(NvSlot.fields_of_scan_lock hl).1] at h
  cases h

/-! ### The slot that a seal takes (R131) -/

section
variable {d : Vector DirEntry 12} {i : Fin 12}

/-- Of two slots, the one that R131 prefers among the unlocked SEALED ones. -/
def olderUnlocked (d : Vector DirEntry 12) (best : Option (Fin 12)) (i : Fin 12) : Option (Fin 12) :=
  if (d[i]).state = .sealed ∧ !(d[i]).lock then
    match best with
    | none => some i
    | some b => if (d[i]).sequence < (d[b]).sequence then some i else some b
  else best

theorem oldestUnlocked_eq_foldl (d : Vector DirEntry 12) : oldestUnlocked d = allSlots.foldl (olderUnlocked d) none := rfl

/-- A fold of the preference finds an unlocked SEALED slot, of no higher a sequence number than any it has passed. -/
theorem foldl_olderUnlocked (l : List (Fin 12)) (best : Option (Fin 12))
    (hbest : ∀ b, best = some b → (d[b]).state = .sealed ∧ (d[b]).lock = false) :
    (∀ k, l.foldl (olderUnlocked d) best = some k →
      ((d[k]).state = .sealed ∧ (d[k]).lock = false)
      ∧ (∀ b, best = some b → (d[k]).sequence ≤ (d[b]).sequence)
      ∧ ∀ j ∈ l, (d[j]).state = .sealed → (d[j]).lock = false → (d[k]).sequence ≤ (d[j]).sequence)
    ∧ (l.foldl (olderUnlocked d) best = none → best = none ∧ ∀ j ∈ l, ¬((d[j]).state = .sealed ∧ (d[j]).lock = false)) := by
  induction l generalizing best with
  | nil =>
    exact ⟨fun k hk => ⟨hbest k hk, fun b hb => by rw [show best = some k from hk] at hb; cases hb; exact Nat.le_refl _,
      fun j hj => by cases hj⟩, fun h => ⟨h, fun j hj => by cases hj⟩⟩
  | cons x xs ih =>
    rw [List.foldl_cons]
    by_cases hx : (d[x]).state = .sealed ∧ (d[x]).lock = false
    · have hsome : ∃ y, olderUnlocked d best x = some y ∧ ((d[y]).state = .sealed ∧ (d[y]).lock = false)
          ∧ (d[y]).sequence ≤ (d[x]).sequence ∧ ∀ b, best = some b → (d[y]).sequence ≤ (d[b]).sequence := by
        unfold olderUnlocked
        rw [if_pos ⟨hx.1, by rw [hx.2]; rfl⟩]
        cases hb : best with
        | none => exact ⟨x, rfl, hx, Nat.le_refl _, fun b h => by cases h⟩
        | some b =>
          dsimp only
          split
          · rename_i hlt
            exact ⟨x, rfl, hx, Nat.le_refl _, fun c h => by cases h; exact Nat.le_of_lt hlt⟩
          · rename_i hlt
            exact ⟨b, rfl, hbest b hb, Nat.not_lt.mp hlt, fun c h => by cases h; exact Nat.le_refl _⟩
      obtain ⟨y, hy, hys, hyx, hyb⟩ := hsome
      rw [hy]
      obtain ⟨hk, hnone⟩ := ih (some y) (fun b hb => by cases hb; exact hys)
      refine ⟨fun k h => ?_, fun h => by cases (hnone h).1⟩
      obtain ⟨hks, hkb, hkall⟩ := hk k h
      refine ⟨hks, fun b hb => Nat.le_trans (hkb y rfl) (hyb b hb), fun j hj hjs hjl => ?_⟩
      rcases List.mem_cons.mp hj with rfl | hj
      · exact Nat.le_trans (hkb y rfl) hyx
      · exact hkall j hj hjs hjl
    · have hsame : olderUnlocked d best x = best :=
        if_neg fun h => hx ⟨h.1, by simpa using h.2⟩
      rw [hsame]
      obtain ⟨hk, hnone⟩ := ih best hbest
      refine ⟨fun k h => ?_, fun h => ⟨(hnone h).1, fun j hj => ?_⟩⟩
      · obtain ⟨hks, hkb, hkall⟩ := hk k h
        refine ⟨hks, hkb, fun j hj hjs hjl => ?_⟩
        rcases List.mem_cons.mp hj with rfl | hj
        · exact absurd ⟨hjs, hjl⟩ hx
        · exact hkall j hj hjs hjl
      · rcases List.mem_cons.mp hj with rfl | hj
        · exact hx
        · exact (hnone h).2 j hj

/-- The oldest unlocked slot is an unlocked SEALED one of the lowest sequence number. -/
theorem oldestUnlocked_some (h : oldestUnlocked d = some i) :
    ((d[i]).state = .sealed ∧ (d[i]).lock = false)
    ∧ ∀ j : Fin 12, (d[j]).state = .sealed → (d[j]).lock = false → (d[i]).sequence ≤ (d[j]).sequence := by
  obtain ⟨hi, -, hall⟩ := (foldl_olderUnlocked (d := d) allSlots none (fun _ hb => by cases hb)).1 i h
  exact ⟨hi, fun j => hall j (mem_allSlots j)⟩

theorem oldestUnlocked_none (h : oldestUnlocked d = none) (j : Fin 12) :
    ¬((d[j]).state = .sealed ∧ (d[j]).lock = false) :=
  ((foldl_olderUnlocked (d := d) allSlots none (fun _ hb => by cases hb)).2 h).2 j (mem_allSlots j)

/-- The slot that a seal takes is EMPTY, DAMAGED, or SEALED and unlocked. -/
theorem chooseSlot_some (h : chooseSlot d = some i) :
    (d[i]).state = .empty ∨ (d[i]).state = .damaged ∨ (d[i]).state = .sealed ∧ (d[i]).lock = false := by
  unfold chooseSlot at h
  split at h
  · rename_i hf
    cases h
    exact .inl (by simpa using List.find?_some hf)
  · split at h
    · rename_i hf
      cases h
      exact .inr (.inl (by simpa using List.find?_some hf))
    · exact .inr (.inr (oldestUnlocked_some h).1)

/-- Where locks are on SEALED slots alone, the slot that a seal takes is unlocked. -/
theorem chooseSlot_unlocked (hs : ∀ j : Fin 12, (d[j]).lock = true → (d[j]).state = .sealed) (h : chooseSlot d = some i) :
    (d[i]).lock = false := by
  cases hl : (d[i]).lock with
  | false => rfl
  | true =>
    rcases chooseSlot_some h with he | he | ⟨-, he⟩
    · rw [hs i hl] at he; cases he
    · rw [hs i hl] at he; cases he
    · rw [hl] at he; cases he

end

/-! ### The buffer that waits for a seal (R130) -/

section
variable {bs : Vector Buffer 2} {b : Fin 2}

theorem awaitingBy_some {better : Nat → Nat → Bool} (h : awaitingBy better bs = some b) :
    (bs[b]).state = .awaitingSeal := by
  unfold awaitingBy at h
  split at h
  · split at h <;> cases h <;> assumption
  all_goals first | (cases h; assumption) | cases h

end

end Sys2Proof.Machine

/-! SUPPORT. Each change keeps the laws of the incident store (R131, R133, R139): the obligation O60. -/

namespace Sys2Proof.Machine

section
variable {s t : State}

/-! ### Ways to keep the laws -/

/-- With every locked stored slot locked in the directory, the array has no more locked slots than the directory. -/
theorem IncidentInv.of_array (directory : DirectoryLaws t.recorder)
    (sealing : ∀ i : Fin 12, (t.recorder.directory[i]).state = .sealing → ∃ b a, t.nv.inFlight = some (.sealing b i a false))
    (sealFlies : ∀ (b : Fin 2) (i : Fin 12) a w, t.nv.inFlight = some (.sealing b i a w) →
      (t.recorder.directory[i]).lock = false ∧ (a = true → lockedCount t.recorder.directory < maxLocked)
      ∧ (t.recorder.directory[i]).state = (if w then .sealed else .sealing) ∧ (t.recorder.buffers[b]).state = .sealing)
    (sealWaits : ∀ b : Fin 2, t.nv.recorderWait = some b → (t.recorder.buffers[b]).state = .awaitingSeal)
    (locking : ∀ (i : Fin 12) n h, t.nv.inFlight = some (.service (.lock i n) h) →
      (t.recorder.directory[i]).state = .sealed ∧ lockedCount t.recorder.directory < maxLocked)
    (lockWaits : ∀ (i : Fin 12) n, t.nv.serviceWait = some (.lock i n) →
      (t.recorder.directory[i]).state = .sealed ∨ (t.recorder.directory[i]).state = .sealing)
    (erasing : ∀ (i : Fin 12) n, t.nv.inFlight = some (.service (.erase i n) true) → (t.array.slots[i]).field 0 1 = 0)
    (array : ∀ i : Fin 12, ((t.array.slots[i]).scan).lock = true → (t.recorder.directory[i]).lock = true) :
    IncidentInv t where
  directory := directory
  sealing := sealing
  sealFlies := sealFlies
  sealWaits := sealWaits
  locking := locking
  lockWaits := lockWaits
  erasing := erasing
  array _ := array
  stored := Nat.le_trans (lockedCount_mono fun i hi => array i (by rwa [scanSlots_get] at hi)) directory.locked

/-- The laws ask of the buffers that one captures at most, that those sealing go on, and that the one that waits does. -/
theorem IncidentInv.of_buffers (h : IncidentInv s) (hdir : t.recorder.directory = s.recorder.directory) (hnv : t.nv = s.nv)
    (hslots : t.array.slots = s.array.slots) (hpow : t.powered = s.powered)
    (hcap : ∀ b c : Fin 2, (t.recorder.buffers[b]).state = .capturing → (t.recorder.buffers[c]).state = .capturing → b = c)
    (hseal : ∀ b : Fin 2, (s.recorder.buffers[b]).state = .sealing → (t.recorder.buffers[b]).state = .sealing)
    (hawait : ∀ b : Fin 2, (s.recorder.buffers[b]).state = .awaitingSeal → (t.recorder.buffers[b]).state = .awaitingSeal) :
    IncidentInv t where
  directory := ⟨hdir ▸ h.directory.locked, hdir ▸ h.directory.sealedOnly, hdir ▸ h.directory.oneSealing, hcap⟩
  sealing := by rw [hdir, hnv]; exact h.sealing
  sealFlies b i a w hf := by
    rw [hnv] at hf
    obtain ⟨hl, hc, hst, hb⟩ := h.sealFlies b i a w hf
    rw [hdir]
    exact ⟨hl, hc, hst, hseal b hb⟩
  sealWaits b hb := hawait b (h.sealWaits b (hnv ▸ hb))
  locking := by rw [hdir, hnv]; exact h.locking
  lockWaits := by rw [hdir, hnv]; exact h.lockWaits
  erasing := by rw [hslots, hnv]; exact h.erasing
  array := by rw [hslots, hdir, hpow]; exact h.array
  stored := by rw [hslots]; exact h.stored

theorem IncidentInv.of_same (h : IncidentInv s) (hdir : t.recorder.directory = s.recorder.directory)
    (hbuf : t.recorder.buffers = s.recorder.buffers) (hnv : t.nv = s.nv) (hslots : t.array.slots = s.array.slots)
    (hpow : t.powered = s.powered) : IncidentInv t :=
  h.of_buffers hdir hnv hslots hpow (hbuf ▸ h.directory.oneCapturing) (hbuf ▸ fun _ => id) (hbuf ▸ fun _ => id)

/-- While nothing is in flight, or a service operation is, no slot is SEALING. -/
theorem IncidentInv.no_sealing (h : IncidentInv s) (hf : ∀ b i a w, s.nv.inFlight ≠ some (.sealing b i a w)) (i : Fin 12) :
    (s.recorder.directory[i]).state ≠ .sealing := fun hi => by
  obtain ⟨b, a, hb⟩ := h.sealing i hi
  exact hf b i a false hb

/-- The operation in flight lands with one slot written, in the directory and in the array. -/
theorem IncidentInv.landed_entry {slot : Fin 12} {e : DirEntry} {x : NvSlot} (h : IncidentInv s) (hpow : s.powered = true)
    (hdir : t.recorder.directory = s.recorder.directory.set slot e) (hslots : t.array.slots = s.array.slots.set slot x)
    (hnv : t.nv = s.nv) (honly : ∀ j : Fin 12, (s.recorder.directory[j]).state = .sealing → j = slot)
    (hstate : e.state ≠ .sealing)
    (hlock : e.lock = true → e.state = .sealed ∧ lockedCount s.recorder.directory < maxLocked)
    (hx : x.scan.lock = true → e.lock = true)
    (hwait : e.state = .sealed ∨ ∀ n, s.nv.serviceWait ≠ some (.lock slot n))
    (hcap : ∀ b c : Fin 2, (t.recorder.buffers[b]).state = .capturing → (t.recorder.buffers[c]).state = .capturing → b = c)
    (hawait : ∀ b : Fin 2, s.nv.recorderWait = some b → (t.recorder.buffers[b]).state = .awaitingSeal) :
    IncidentInv t.landed := by
  have hget : ∀ j : Fin 12, t.recorder.directory[j] = if j = slot then e else s.recorder.directory[j] := fun j => by
    rw [hdir, getElem_set_fin]
  have hnone : ∀ j : Fin 12, (t.recorder.directory[j]).state ≠ .sealing := fun j hj => by
    rw [hget] at hj
    split at hj
    · exact hstate hj
    · exact absurd (honly j hj) ‹_›
  refine .of_array ⟨?locked, ?sealedOnly, fun i j hi => absurd hi (hnone i), hcap⟩ (fun i hi => absurd hi (hnone i))
    (fun _ _ _ _ hf => by cases hf) (fun b hb => hawait b (by rw [← hnv]; exact hb)) (fun _ _ _ hf => by cases hf)
    ?lockWaits (fun _ _ hf => by cases hf) ?array
  case locked =>
    change lockedCount t.recorder.directory ≤ maxLocked
    cases hl : e.lock with
    | true =>
      refine Nat.le_trans (lockedCount_le_succ (d := s.recorder.directory) slot fun j hj hlj => ?_) (hlock hl).2
      rwa [hget, if_neg hj] at hlj
    | false =>
      refine Nat.le_trans (lockedCount_mono fun j hlj => ?_) h.directory.locked
      rw [hget] at hlj
      split at hlj
      · rw [hl] at hlj; cases hlj
      · exact hlj
  case sealedOnly =>
    intro j hj
    change (t.recorder.directory[j]).lock = true at hj
    change (t.recorder.directory[j]).state = .sealed
    rw [hget] at hj ⊢
    split at hj
    · rw [if_pos ‹_›]; exact (hlock hj).1
    · rw [if_neg ‹_›]; exact h.directory.sealedOnly j hj
  case lockWaits =>
    intro i n hw
    change (t.recorder.directory[i]).state = .sealed ∨ (t.recorder.directory[i]).state = .sealing
    have hw' : s.nv.serviceWait = some (.lock i n) := hnv ▸ hw
    rw [hget]
    split
    · rename_i hi
      subst hi
      exact .inl (hwait.resolve_right fun hn => hn n hw')
    · exact h.lockWaits i n hw'
  case array =>
    intro j hj
    change ((t.array.slots[j]).scan).lock = true at hj
    change (t.recorder.directory[j]).lock = true
    rw [hslots, getElem_set_fin] at hj
    rw [hget]
    split at hj
    · rw [if_pos ‹_›]; exact hx hj
    · rw [if_neg ‹_›]; exact h.array hpow j hj

/-- A service operation that writes no directory entry, and locks nothing in the array, lands. -/
theorem IncidentInv.landed_same {op : ServiceOp} {x : Bool} (h : IncidentInv s) (hop : s.nv.inFlight = some (.service op x))
    (hdir : t.recorder.directory = s.recorder.directory) (hbuf : t.recorder.buffers = s.recorder.buffers) (hnv : t.nv = s.nv)
    (hslots : ∀ j : Fin 12, (t.array.slots[j]).scan.lock = true → (s.array.slots[j]).scan.lock = true)
    (hpow : t.powered = s.powered) : IncidentInv t.landed where
  directory := ⟨hdir ▸ h.directory.locked, hdir ▸ h.directory.sealedOnly, hdir ▸ h.directory.oneSealing,
    hbuf ▸ h.directory.oneCapturing⟩
  sealing i hi := absurd (hdir ▸ hi) (h.no_sealing (fun _ _ _ _ hf => by rw [hop] at hf; cases hf) i)
  sealFlies _ _ _ _ hf := by cases hf
  sealWaits b hb := by
    change (t.recorder.buffers[b]).state = _
    rw [hbuf]
    exact h.sealWaits b (hnv ▸ hb)
  locking _ _ _ hf := by cases hf
  lockWaits i n hw := by
    change (t.recorder.directory[i]).state = _ ∨ (t.recorder.directory[i]).state = _
    rw [hdir]
    exact h.lockWaits i n (hnv ▸ hw)
  erasing _ _ hf := by cases hf
  array hp i hi := by
    change (t.recorder.directory[i]).lock = true
    rw [hdir]
    exact h.array (hpow ▸ hp) i (hslots i hi)
  stored := Nat.le_trans (lockedCount_mono fun j hj => by
    rw [scanSlots_get] at hj ⊢
    exact hslots j hj) h.stored

/-! ### The controller's turn -/

theorem IncidentInv.placeSeal (h : IncidentInv s) : IncidentInv s.placeSeal := by
  unfold State.placeSeal
  split
  · exact h
  · split
    · exact h
    · rename_i b hb
      exact { h with
        directory := ⟨h.directory.locked, h.directory.sealedOnly, h.directory.oneSealing, h.directory.oneCapturing⟩
        sealWaits := fun c hc => by cases hc; exact awaitingBy_some hb }

/-- A SEAL is granted: its slot becomes the one that is SEALING (R131). -/
theorem IncidentInv.grantSeal {b : Fin 2} (h : IncidentInv s) (hpow : s.powered = true) (hfree : s.nv.inFlight = none) :
    IncidentInv (s.grantSeal b) := by
  rcases s.grantSeal_cases b with he | ⟨slot, denied, hslot, he⟩ <;> rw [he]
  · exact h
  have hnone := h.no_sealing (by simp [hfree])
  have hun := chooseSlot_unlocked h.directory.sealedOnly hslot
  have hget : ∀ (e : DirEntry) (j : Fin 12),
      (s.recorder.directory.set slot e)[j] = if j = slot then e else s.recorder.directory[j] := fun e j => getElem_set_fin ..
  have hbuf : ∀ (x : Buffer) (c : Fin 2), (s.recorder.buffers.set b x)[c] = if c = b then x else s.recorder.buffers[c] :=
    fun x c => getElem_set_fin ..
  have hmono : ∀ e : DirEntry, e.lock = false → ∀ j : Fin 12, ((s.recorder.directory.set slot e)[j]).lock = true →
      (s.recorder.directory[j]).lock = true := fun e he j hj => by
    rw [hget] at hj
    split at hj
    · rw [he] at hj; cases hj
    · exact hj
  refine .of_array ⟨Nat.le_trans (lockedCount_mono (hmono _ rfl)) h.directory.locked, fun j hj => ?sealedOnly, fun i j hi hj => ?oneSealing,
      fun c c' hc hc' => ?oneCapturing⟩
    (fun i hi => ?sealing) (fun c i a w hf => ?sealFlies) (fun _ hw => by cases hw) (fun _ _ _ hf => by cases hf)
    (fun i n hw => ?lockWaits) (fun _ _ hf => by cases hf) (fun i hi => ?array)
  case sealedOnly =>
    change ((s.recorder.directory.set slot _)[j]).lock = true at hj
    change ((s.recorder.directory.set slot _)[j]).state = .sealed
    rw [hget] at hj ⊢
    split at hj
    · cases hj
    · rw [if_neg ‹_›]; exact h.directory.sealedOnly j hj
  case oneSealing =>
    change ((s.recorder.directory.set slot _)[i]).state = .sealing at hi
    change ((s.recorder.directory.set slot _)[j]).state = .sealing at hj
    rw [hget] at hi hj
    split at hi <;> split at hj
    · simp [*]
    · exact absurd hj (hnone j)
    · exact absurd hi (hnone i)
    · exact absurd hi (hnone i)
  case oneCapturing =>
    change ((s.recorder.buffers.set b _)[c]).state = .capturing at hc
    change ((s.recorder.buffers.set b _)[c']).state = .capturing at hc'
    rw [hbuf] at hc hc'
    split at hc
    · cases hc
    · split at hc'
      · cases hc'
      · exact h.directory.oneCapturing c c' hc hc'
  case sealing =>
    change ((s.recorder.directory.set slot _)[i]).state = .sealing at hi
    rw [hget] at hi
    split at hi
    · rename_i hslot
      subst hslot
      exact ⟨b, _, rfl⟩
    · exact absurd hi (hnone i)
  case sealFlies =>
    cases hf
    change ((s.recorder.directory.set slot _)[slot]).lock = false ∧ (_ → lockedCount (s.recorder.directory.set slot _) < _)
      ∧ ((s.recorder.directory.set slot _)[slot]).state = _ ∧ ((s.recorder.buffers.set b _)[b]).state = _
    rw [hget, hbuf, if_pos rfl, if_pos rfl]
    refine ⟨rfl, fun ha => ?_, rfl, rfl⟩
    simp only [Bool.and_eq_true, decide_eq_true_eq] at ha
    exact Nat.lt_of_le_of_lt (lockedCount_mono (hmono _ rfl)) ha.2
  case lockWaits =>
    change ((s.recorder.directory.set slot _)[i]).state = _ ∨ ((s.recorder.directory.set slot _)[i]).state = _
    rw [hget]
    split
    · exact .inr rfl
    · exact h.lockWaits i n hw
  case array =>
    change ((s.recorder.directory.set slot _)[i]).lock = true
    have hl := h.array hpow i hi
    rw [hget]
    split
    · rename_i hslot
      subst hslot
      rw [hun] at hl
      cases hl
    · exact hl

/-- A service operation is granted (R139, R142, R186). -/
theorem IncidentInv.grantService {op : ServiceOp} (h : IncidentInv s) (hfree : s.nv.inFlight = none)
    (hop : s.nv.serviceWait = some op) : IncidentInv (s.grantService op) := by
  have hnone := h.no_sealing (by simp [hfree])
  rcases s.grantService_cases op with ⟨hw, he⟩ | ⟨r, he⟩ <;> rw [he]
  · exact { h with
      directory := h.directory
      sealing := fun i hi => absurd hi (hnone i)
      sealFlies := fun _ _ _ _ hf => by cases hf
      locking := fun i n x hf => by
        cases hf
        exact ⟨(h.lockWaits i n hop).resolve_right (hnone i), hw.2⟩
      lockWaits := fun _ _ hf => by cases hf
      erasing := fun _ _ hf => by cases hf }
  · have hnv := s.grantedNothing_nv r
    refine IncidentInv.of_same (s := { s with nv := { s.nv with serviceWait := none } }) ?_ ?_ ?_ hnv ?_ ?_
    · exact { h with directory := h.directory, lockWaits := fun _ _ hf => by cases hf }
    all_goals simp

theorem IncidentInv.grant (h : IncidentInv s) (hpow : s.powered = true) : IncidentInv s.grant := by
  rcases s.grant_cases with he | ⟨-, hfree, ⟨b, -, he⟩ | ⟨op, -, hop, he⟩⟩ <;> rw [he]
  · exact h
  · exact h.grantSeal hpow hfree
  · exact h.grantService hfree hop

/-! ### Captures -/

theorem Buffer.join_state (x : Trigger) (b : Buffer) : (b.join x).state = b.state := by
  unfold Buffer.join
  split <;> rfl

theorem IncidentInv.arrive (h : IncidentInv s) (x : Trigger) : IncidentInv (s.arrive x) := by
  unfold State.arrive Recorder.arrive
  dsimp only
  split
  · rename_i i _
    have hstate : ∀ c : Fin 2, ((s.recorder.buffers.set i ((s.recorder.buffers[i]).join x))[c]).state =
        (s.recorder.buffers[c]).state := fun c => by
      rw [getElem_set_fin]
      split
      · rename_i hc; subst hc; exact Buffer.join_state ..
      · rfl
    refine h.of_buffers rfl rfl rfl rfl (fun b c hb hc => ?_) (fun b hb => ?_) (fun b hb => ?_)
    · exact h.directory.oneCapturing b c ((hstate b).symm.trans hb) ((hstate c).symm.trans hc)
    · exact (hstate b).trans hb
    · exact (hstate b).trans hb
  · rename_i i hplace
    have hfree : (s.recorder.buffers[i]).state = .free ∧ ∀ c : Fin 2, (s.recorder.buffers[c]).state ≠ .capturing := by
      unfold arrivalPlace at hplace
      split at hplace
      · cases hplace
      · rename_i hcap
        split at hplace
        · rename_i hf
          cases hplace
          refine ⟨by simpa using List.find?_some hf, fun c hc => ?_⟩
          have hmem : ∀ c : Fin 2, c ∈ ([0, 1] : List (Fin 2)) := by decide
          exact List.find?_eq_none.mp hcap c (hmem c) (decide_eq_true hc)
        · split at hplace <;> cases hplace
    refine h.of_buffers rfl rfl rfl rfl (fun b c hb hc => ?_) (fun b hb => ?_) (fun b hb => ?_)
    · change ((s.recorder.buffers.set i _)[b]).state = _ at hb
      change ((s.recorder.buffers.set i _)[c]).state = _ at hc
      rw [getElem_set_fin] at hb hc
      split at hb
      · split at hc
        · simp [*]
        · exact absurd hc (hfree.2 c)
      · exact absurd hb (hfree.2 b)
    all_goals
      change ((s.recorder.buffers.set i _)[b]).state = _
      rw [getElem_set_fin]
      split
      · rename_i hbi; subst hbi; rw [hfree.1] at hb; cases hb
      · exact hb
  · exact h.of_same rfl rfl rfl rfl rfl

/-- A buffer at a sample event goes on as it was, or its capture ends (R118, R129). -/
theorem Buffer.sample_state (x : Sample) (b : Buffer) :
    (b.sample x).state = b.state ∨ b.state = .capturing ∧ (b.sample x).state = .awaitingSeal := by
  unfold Buffer.sample
  split
  · rename_i hb
    dsimp only
    split
    · exact .inr ⟨hb, rfl⟩
    · exact .inl hb.symm
  · exact .inl rfl
  · exact .inl rfl
  · exact .inl rfl

theorem IncidentInv.takeSample (h : IncidentInv s) (x : SampleInputs) :
    IncidentInv { s with recorder := s.recorder.takeSample x } := by
  have hget : ∀ c : Fin 2, (s.recorder.takeSample x).buffers[c] =
      (s.recorder.buffers[c]).sample (buildSample x s.recorder.marker) := fun c => by simp [Recorder.takeSample]
  have hcap : ∀ c : Fin 2, ((s.recorder.takeSample x).buffers[c]).state = .capturing →
      (s.recorder.buffers[c]).state = .capturing := fun c hc => by
    rw [hget] at hc
    rcases Buffer.sample_state _ (s.recorder.buffers[c]) with hs | ⟨hs, -⟩
    · exact hs ▸ hc
    · exact hs
  have hkeep : ∀ (c : Fin 2) (st : BufferState), st ≠ .capturing → (s.recorder.buffers[c]).state = st →
      ((s.recorder.takeSample x).buffers[c]).state = st := fun c st hst hc => by
    rw [hget]
    rcases Buffer.sample_state _ (s.recorder.buffers[c]) with hs | ⟨hs, -⟩
    · exact hs.trans hc
    · exact absurd (hc.symm.trans hs) hst
  exact h.of_buffers rfl rfl rfl rfl (fun b c hb hc => h.directory.oneCapturing b c (hcap b hb) (hcap c hc))
    (fun b => hkeep b .sealing (by simp)) (fun b => hkeep b .awaitingSeal (by simp))

end

end Sys2Proof.Machine

/-! SUPPORT. The laws of the incident store at the completions, the resets and the loss of power, and so at every step: the obligation O60. -/

namespace Sys2Proof.Machine

section
variable {s t : State}

/-! ### What is written in between -/

/-- Step 4 of a seal that is to auto-lock (R132). -/
theorem IncidentInv.sealedState (h : IncidentInv s) (hpow : s.powered = true) : IncidentInv s.sealedState := by
  unfold State.sealedState
  split
  · rename_i b slot hop
    obtain ⟨hun, hroom, hstate, hbuf⟩ := h.sealFlies b slot true false hop
    have honly : ∀ j : Fin 12, (s.recorder.directory[j]).state = .sealing → j = slot := fun j hj => by
      obtain ⟨c, a, hc⟩ := h.sealing j hj
      rw [hop] at hc
      cases hc
      rfl
    have hl := IncidentInv.landed_entry
      (t := (s.writeSlot slot (sealedSlot s.recorder.buffers[b] .sealed false)).withEntry slot
        ⟨.sealed, false, (s.recorder.buffers[b]).sequence, (s.recorder.buffers[b]).firstKind⟩)
      h hpow rfl rfl rfl honly (by simp) (by simp) sealedSlot_scan_lock (.inl rfl) h.directory.oneCapturing h.sealWaits
    exact { hl with
      directory := hl.directory
      sealing := fun i hi => absurd hi (hl.no_sealing (fun _ _ _ _ hf => by cases hf) i)
      sealFlies := fun c i a w hf => by
        cases hf
        change ((s.recorder.directory.set slot _)[slot]).lock = false
          ∧ (_ → lockedCount (s.recorder.directory.set slot _) < _)
          ∧ ((s.recorder.directory.set slot _)[slot]).state = _ ∧ (s.recorder.buffers[b]).state = _
        rw [getElem_set_fin, if_pos rfl]
        refine ⟨rfl, fun _ => Nat.lt_of_le_of_lt (lockedCount_mono fun j hj => ?_) (hroom rfl), rfl, hbuf⟩
        rw [getElem_set_fin] at hj
        split at hj
        · cases hj
        · exact hj
      locking := fun _ _ _ hf => by cases hf
      erasing := fun _ _ hf => by cases hf }
  · exact h

/-- A service operation in flight has nothing waiting behind it (R167). -/
theorem ConfigInv.none_waits {op : ServiceOp} {x : Bool} (h : ConfigInv s) (hop : s.nv.inFlight = some (.service op x)) :
    s.nv.serviceWait = none := by
  rcases h.single with hnone | hnone
  · rw [State.serviceInFlight_of_service s hop] at hnone
    cases hnone
  · exact hnone

/-- The slot's entries once an erase has written its header (R142). -/
theorem State.emptied_entry (slot : Fin 12) (s : State) :
    (s.emptied slot).recorder.directory = s.recorder.directory.set slot
      ⟨.empty, false, (s.recorder.directory[slot]).sequence, (s.recorder.directory[slot]).kind⟩
    ∧ (s.emptied slot).array.slots = s.array.slots.set slot
      ⟨erasedHeader s.draws (s.array.slots[slot]).header, (s.array.slots[slot]).body⟩
    ∧ (s.emptied slot).recorder.buffers = s.recorder.buffers := by
  simp only [State.emptied, State.writeSlot, State.withEntry, Recorder.withEntry, NvArray.withSlot, and_self]

/-- An erase empties its slot: nothing is SEALING meanwhile, and no lock waits. -/
theorem IncidentInv.emptied {slot : Fin 12} {n : Nat} {x : Bool} (h : IncidentInv s) (hc : ConfigInv s)
    (hpow : s.powered = true) (hop : s.nv.inFlight = some (.service (.erase slot n) x)) :
    IncidentInv (s.emptied slot).landed := by
  obtain ⟨hdir, hslots, hbuf⟩ := s.emptied_entry slot
  refine h.landed_entry hpow hdir hslots (by rw [State.emptied_rest])
    (fun j hj => absurd hj (h.no_sealing (by simp [hop]) j)) (by simp) (by simp)
    (by rw [erasedHeader_scan_lock]; simp) (.inr fun _ => by simp [hc.none_waits hop]) ?_ ?_
  · rw [hbuf]; exact h.directory.oneCapturing
  · rw [hbuf]; exact h.sealWaits

theorem IncidentInv.eraseHeaderWritten (h : IncidentInv s) (hc : ConfigInv s) (hpow : s.powered = true) :
    IncidentInv s.eraseHeaderWritten := by
  unfold State.eraseHeaderWritten
  split
  · rename_i slot n hop
    have hl := h.emptied hc hpow hop
    exact { hl with
      directory := hl.directory
      sealing := fun i hi => absurd hi (hl.no_sealing (fun _ _ _ _ hf => by cases hf) i)
      sealFlies := fun _ _ _ _ hf => by cases hf
      locking := fun _ _ _ hf => by cases hf
      erasing := fun i m hf => by
        cases hf
        change NvSlot.field ((s.emptied slot).array.slots[slot]) 0 1 = 0
        rw [(s.emptied_entry slot).2.1, getElem_set_fin, if_pos rfl, erasedHeader_field_zero] }
  · exact h

/-! ### Completions -/

/-- What the completion of a configuration store leaves of the incident store. -/
theorem State.configStored_kept (w : Option (Param × Nat)) (s : State) :
    (s.configStored w).recorder.directory = s.recorder.directory ∧ (s.configStored w).recorder.buffers = s.recorder.buffers
    ∧ (s.configStored w).array.slots = s.array.slots ∧ (s.configStored w).powered = s.powered := by
  have same : State.KeepsEvents fun u => u.recorder.directory = s.recorder.directory
      ∧ u.recorder.buffers = s.recorder.buffers ∧ u.array.slots = s.array.slots ∧ u.powered = s.powered :=
    { aside := fun _ _ hst h => by rwa [hst.directory, hst.buffers, hst.array, hst.powered]
      lines := fun _ _ _ h => h
      event := fun _ _ _ h => h }
  unfold State.configStored
  rw [State.deferredReply_recorder, State.deferredReply_array, State.deferredReply_powered]
  cases w with
  | none => exact ⟨rfl, rfl, rfl, rfl⟩
  | some pv => exact same.remeasured (s := s.storeWritten (some pv)) pv.1 ⟨rfl, rfl, rfl, rfl⟩

/-- A seal completes (R132). -/
theorem IncidentInv.sealComplete {b : Fin 2} {slot : Fin 12} {a w : Bool} (h : IncidentInv s) (hpow : s.powered = true)
    (hop : s.nv.inFlight = some (.sealing b slot a w)) :
    IncidentInv (State.landed (((s.writeSlot slot (sealedSlot s.recorder.buffers[b] .sealed a)).withEntry slot
      ⟨.sealed, a, (s.recorder.buffers[b]).sequence, (s.recorder.buffers[b]).firstKind⟩).withBuffer b .free)) := by
  obtain ⟨-, hroom, -, hbuf⟩ := h.sealFlies b slot a w hop
  refine h.landed_entry hpow rfl rfl rfl (fun j hj => ?_) (by simp) (fun ha => ⟨rfl, hroom ha⟩) sealedSlot_scan_lock
    (.inl rfl) (fun c c' hc hc' => ?_) (fun c hc => ?_)
  · obtain ⟨_, _, hf⟩ := h.sealing j hj
    rw [hop] at hf
    cases hf
    rfl
  · change ((s.recorder.buffers.set b .free)[c]).state = _ at hc
    change ((s.recorder.buffers.set b .free)[c']).state = _ at hc'
    rw [getElem_set_fin] at hc hc'
    split at hc
    · cases hc
    · split at hc'
      · cases hc'
      · exact h.directory.oneCapturing c c' hc hc'
  · change ((s.recorder.buffers.set b .free)[c]).state = _
    have hwait := h.sealWaits c hc
    rw [getElem_set_fin, if_neg]
    · exact hwait
    · rintro rfl
      rw [hbuf] at hwait
      cases hwait

/-- A lock flag has been written (R139, R140). -/
theorem IncidentInv.withLock {op : ServiceOp} {x lock : Bool} {slot : Fin 12} {r : Result} {data : List Byte}
    (h : IncidentInv s) (hpow : s.powered = true) (hop : s.nv.inFlight = some (.service op x))
    (hlock : lock = true → (s.recorder.directory[slot]).state = .sealed ∧ lockedCount s.recorder.directory < maxLocked)
    (hwait : (s.recorder.directory[slot]).state = .sealed ∨ s.nv.serviceWait = none) :
    IncidentInv (State.landed ((s.withLock slot lock).deferredReply r data)) := by
  have hnone := h.no_sealing (by simp [hop])
  refine h.landed_entry (slot := slot) (e := { s.recorder.directory[slot] with lock := lock })
    (x := (s.array.slots[slot]).withLock lock) hpow ?_ ?_ ?_ (fun j hj => absurd hj (hnone j)) (hnone slot) hlock
    (fun hx => ?_) (hwait.imp_right fun hw n => by simp [hw]) ?_ ?_
  · rw [State.deferredReply_recorder]; rfl
  · rw [State.deferredReply_array]; rfl
  · rw [State.deferredReply_nv]; rfl
  · cases lock with
    | true => rfl
    | false => rw [NvSlot.withLock_scan_lock] at hx; cases hx
  · rw [State.deferredReply_recorder]; exact h.directory.oneCapturing
  · rw [State.deferredReply_recorder]; exact h.sealWaits

/-- What an erase leaves of the incident store: one slot's header and body are written anew, and its entry with a header
that is (R142). -/
theorem State.erased_slots (slot : Fin 12) (x : Bool) (s : State) :
    ∃ body, (s.erased slot x).array.slots =
        s.array.slots.set slot ⟨if x then (s.array.slots[slot]).header
          else erasedHeader s.draws (s.array.slots[slot]).header, body⟩
      ∧ (s.erased slot x).recorder.directory = (if x then s.recorder.directory else s.recorder.directory.set slot
          ⟨.empty, false, (s.recorder.directory[slot]).sequence, (s.recorder.directory[slot]).kind⟩)
      ∧ (s.erased slot x).recorder.buffers = s.recorder.buffers := by
  obtain ⟨hdir, hslots, hbuf⟩ := s.emptied_entry slot
  cases x with
  | true => exact ⟨_, rfl, rfl, rfl⟩
  | false =>
    simp only [State.erased, State.bodyCleared, State.writeSlot, NvArray.withSlot, hdir, hslots, hbuf, Bool.false_eq_true,
      if_false, getElem_set_fin, if_true]
    exact ⟨_, Vector.set_set .., trivial, trivial⟩

/-- An erase completes (R142). -/
theorem IncidentInv.erased {slot : Fin 12} {n : Nat} {x : Bool} {r : Result} {data : List Byte} (h : IncidentInv s)
    (hc : ConfigInv s) (hpow : s.powered = true) (hop : s.nv.inFlight = some (.service (.erase slot n) x)) :
    IncidentInv (State.landed ((s.erased slot x).deferredReply r data)) := by
  obtain ⟨body, hslots, hdir, hbuf⟩ := s.erased_slots slot x
  have hnv : ((s.erased slot x).deferredReply r data).nv = s.nv := by rw [State.deferredReply_nv, State.erased_rest]
  rw [← State.deferredReply_recorder (r := r) (d := data)] at hdir hbuf
  rw [← State.deferredReply_array (r := r) (d := data)] at hslots
  cases x with
  | false =>
    refine h.landed_entry hpow hdir hslots hnv
      (fun j hj => absurd hj (h.no_sealing (by simp [hop]) j)) (by simp) (by simp) (fun hx => ?_)
      (.inr fun _ => by simp [hc.none_waits hop]) ?_ ?_
    · rw [if_neg (by simp), erasedHeader_scan_lock] at hx
      cases hx
    · rw [hbuf]; exact h.directory.oneCapturing
    · rw [hbuf]; exact h.sealWaits
  | true =>
    have hempty : NvSlot.field ⟨(s.array.slots[slot]).header, body⟩ 0 1 = 0 := h.erasing slot n hop
    refine h.landed_same hop hdir hbuf hnv (fun j hj => ?_) (by rw [State.deferredReply_powered, State.erased_rest])
    rw [hslots, getElem_set_fin] at hj
    split at hj
    · rw [if_pos rfl, NvSlot.scan_lock_of_empty hempty] at hj
      cases hj
    · exact hj

end

end Sys2Proof.Machine

/-! SUPPORT. The laws of the incident store at the resets and the loss of power, and so at every step: the obligation O60. -/

namespace Sys2Proof.Machine

section
variable {s t : State}

/-! ### What every event keeps -/

theorem IncidentInv.keepsEvents : State.KeepsEvents IncidentInv where
  aside _ _ hst h := h.of_same hst.directory hst.buffers hst.nv (by rw [hst.array]) hst.powered
  lines _ _ _ h := h.of_same rfl rfl rfl rfl rfl
  event _ _ _ h := h.of_same rfl rfl rfl rfl rfl

theorem IncidentInv.placed {k : Byte} {op : ServiceOp} (hop : op.Placeable s) (h : IncidentInv s) :
    IncidentInv { s with nv := { s.nv with serviceWait := some op }, ports := { s.ports with outstanding := some k } } :=
  { h with
    directory := h.directory
    lockWaits := fun i n hw => by cases hw; exact .inl (hop.2 i n rfl) }

theorem State.Completes.powered (h : s.Completes t) : t.powered = s.powered := by
  cases h with
  | sealed => rfl
  | stored => exact (s.configStored_kept _).2.2.2
  | assigned | locked | unlocked => exact State.deferredReply_powered ..
  | erased => rw [State.deferredReply_powered, State.erased_rest]

theorem IncidentInv.completes (h : IncidentInv s) (hc : ConfigInv s) (hpow : s.powered = true) (ht : s.Completes t) :
    IncidentInv t.landed := by
  cases ht with
  | sealed hop => exact h.sealComplete hpow hop
  | stored hop =>
    obtain ⟨hdir, hbuf, hslots, hpow'⟩ := s.configStored_kept ‹_›
    exact h.landed_same hop hdir hbuf (s.storeWritten_kept _).2.2 (fun j hj => by rwa [hslots] at hj) hpow'
  | assigned hop =>
    refine h.landed_same hop ?_ ?_ ?_ (fun j hj => ?_) ?_
    · rw [State.deferredReply_recorder]; rfl
    · rw [State.deferredReply_recorder]; rfl
    · rw [State.deferredReply_nv]; rfl
    · rw [State.deferredReply_array] at hj; exact hj
    · rw [State.deferredReply_powered]; rfl
  | locked hop => exact h.withLock hpow hop (fun _ => h.locking _ _ _ hop) (.inl (h.locking _ _ _ hop).1)
  | unlocked hop => exact h.withLock hpow hop (fun hl => by cases hl) (.inr (hc.none_waits hop))
  | erased hop => exact h.erased hc hpow hop

/-! ### Resets -/

/-- With the controller idle the laws are those of the directory and of the array. -/
theorem IncidentInv.of_idle (hidle : s.nv = .empty) (hdir : DirectoryLaws s.recorder)
    (hstate : ∀ i : Fin 12, (s.recorder.directory[i]).state ≠ .sealing)
    (harray : s.powered = true → ∀ i : Fin 12, ((s.array.slots[i]).scan).lock = true → (s.recorder.directory[i]).lock = true)
    (hstored : lockedCount (scanSlots s.array.slots) ≤ maxLocked) : IncidentInv s where
  directory := hdir
  sealing i hi := absurd hi (hstate i)
  sealFlies _ _ _ _ hf := by rw [hidle] at hf; cases hf
  sealWaits _ hf := by rw [hidle] at hf; cases hf
  locking _ _ _ hf := by rw [hidle] at hf; cases hf
  lockWaits _ _ hf := by rw [hidle] at hf; cases hf
  erasing _ _ hf := by rw [hidle] at hf; cases hf
  array := harray
  stored := hstored

/-- The laws, with power, that every event and every turn of the controller keeps. -/
def LiveIncident (s : State) : Prop := IncidentInv s ∧ s.powered = true

theorem LiveIncident.keepsTurns : State.KeepsTurns LiveIncident where
  aside s t hst h := ⟨IncidentInv.keepsEvents.aside s t hst h.1, hst.powered.trans h.2⟩
  lines _ _ hl h := ⟨IncidentInv.keepsEvents.lines _ _ hl h.1, h.2⟩
  event _ _ hf h := ⟨IncidentInv.keepsEvents.event _ _ hf h.1, h.2⟩
  order _ _ _ h := ⟨h.1.of_same rfl rfl rfl rfl rfl, h.2⟩
  placeSeal _ h := ⟨h.1.placeSeal, (State.placeSeal_powered _).trans h.2⟩
  grant _ h := ⟨h.1.grant h.2, (State.grant_powered _).trans h.2⟩

theorem Buffer.atRestart_state_ne (b : Buffer) : b.atRestart.state ≠ .capturing := by
  unfold Buffer.atRestart
  split
  · simp
  · assumption

/-- A warm restart finds nothing in flight, leaves no capture and keeps the directory (R190). -/
theorem LiveIncident.warmRestart (h : LiveIncident s) (hfree : s.nv.inFlight = none) (cause : ResetCause) :
    LiveIncident (s.warmRestart cause) := by
  obtain ⟨h, hpow⟩ := h
  refine LiveIncident.keepsTurns.concludeReset fun l => ⟨.of_idle rfl ⟨h.directory.locked, h.directory.sealedOnly,
    h.directory.oneSealing, fun b c hb _ => ?_⟩ (h.no_sealing (by simp [hfree])) (fun _ => h.array hpow) h.stored, hpow⟩
  change ((s.recorder.afterWarm cause).buffers[b]).state = .capturing at hb
  simp only [Recorder.afterWarm, Fin.getElem_fin, Vector.getElem_ofFn] at hb
  exact absurd hb (Buffer.atRestart_state_ne _)

theorem LiveIncident.restartIfDue (h : LiveIncident s) : LiveIncident s.restartIfDue := by
  rcases s.restartIfDue_cases with he | ⟨cause, -, hfree, -, he⟩ <;> rw [he]
  · exact h
  · exact h.warmRestart hfree cause

/-- The directory of a scan obeys the laws where no more than eight slots are stored locked (R135, R139). -/
theorem directoryLaws_afterPowerOn {draw : Nat} {slots : Vector NvSlot 12} (h : lockedCount (scanSlots slots) ≤ maxLocked) :
    DirectoryLaws (.afterPowerOn draw slots) where
  locked := h
  sealedOnly i hi := by
    change ((scanSlots slots)[i]).lock = true at hi
    change ((scanSlots slots)[i]).state = .sealed
    rw [scanSlots_get] at hi ⊢
    exact NvSlot.sealed_of_scan_lock hi
  oneSealing i j hi _ := by
    change ((scanSlots slots)[i]).state = .sealing at hi
    rw [scanSlots_get] at hi
    exact absurd hi (NvSlot.scan_state_ne_sealing _)
  oneCapturing b c hb _ := by
    simp only [Recorder.afterPowerOn, Fin.getElem_fin, Vector.getElem_ofFn] at hb
    cases hb

theorem scanSlots_state_ne_sealing (slots : Vector NvSlot 12) (i : Fin 12) : ((scanSlots slots)[i]).state ≠ .sealing := by
  rw [scanSlots_get]
  exact NvSlot.scan_state_ne_sealing _

theorem LiveIncident.powerOn (h : lockedCount (scanSlots s.array.slots) ≤ maxLocked) : LiveIncident s.powerOn := by
  refine LiveIncident.keepsTurns.concludeReset fun l =>
    ⟨.of_idle rfl (directoryLaws_afterPowerOn h) (scanSlots_state_ne_sealing s.array.slots) (fun _ i hi => ?_) h, rfl⟩
  change ((scanSlots s.array.slots)[i]).lock = true
  rw [scanSlots_get]
  exact hi

/-! ### Loss of power -/

theorem blankSlot_scan_lock (k : Nat) : (blankSlot k).scan.lock = false := erasedHeader_scan_lock ..

/-- The slots of an array never written are all unlocked (R133, log 5). -/
theorem lockedCount_blank : lockedCount (scanSlots NvArray.blank.slots) ≤ maxLocked := by
  suffices h : lockedCount (scanSlots NvArray.blank.slots) = 0 by rw [h]; decide
  unfold lockedCount
  rw [List.length_eq_zero_iff, List.filter_eq_nil_iff]
  intro i _
  rw [scanSlots_get]
  simp [NvArray.blank, blankSlot_scan_lock]

/-- Without power the part holds the recorder of State.reset. -/
theorem IncidentInv.dark (h : lockedCount (scanSlots s.array.slots) ≤ maxLocked) : IncidentInv s.dark :=
  .of_idle rfl (directoryLaws_afterPowerOn (draw := 0) lockedCount_blank)
    (scanSlots_state_ne_sealing NvArray.blank.slots) (fun hp => by cases hp) h

/-- One slot written is not locked, or the directory has room for one more lock. -/
theorem IncidentInv.stored_set {slot : Fin 12} {x : NvSlot} (h : IncidentInv s) (hpow : s.powered = true)
    (hx : x.scan.lock = true → (s.recorder.directory[slot]).lock = true ∨ lockedCount s.recorder.directory < maxLocked) :
    lockedCount (scanSlots (s.array.slots.set slot x)) ≤ maxLocked := by
  have hget : ∀ j : Fin 12, (scanSlots (s.array.slots.set slot x))[j] = if j = slot then x.scan else (s.array.slots[j]).scan :=
    fun j => by rw [scanSlots_get, getElem_set_fin]; split <;> rfl
  by_cases hroom : lockedCount s.recorder.directory < maxLocked
  · refine Nat.le_trans (lockedCount_le_succ (d := s.recorder.directory) slot fun j hj hl => ?_) hroom
    rw [hget, if_neg hj] at hl
    exact h.array hpow j hl
  · refine Nat.le_trans (lockedCount_mono fun j hl => ?_) h.directory.locked
    rw [hget] at hl
    split at hl
    · rename_i hj
      subst hj
      exact (hx hl).resolve_right hroom
    · exact h.array hpow j hl

/-- What power loss leaves of the operation in flight locks no slot beyond the eighth (R187). -/
theorem IncidentInv.interrupt (h : IncidentInv s) (hpow : s.powered = true) (x : NvProgress) :
    lockedCount (scanSlots (s.interrupt x).array.slots) ≤ maxLocked := by
  have hset : ∀ {slot : Fin 12} {y : NvSlot}, (y.scan.lock = true → lockedCount s.recorder.directory < maxLocked) →
      lockedCount (scanSlots (s.array.slots.set slot y)) ≤ maxLocked := fun hy => h.stored_set hpow fun hl => .inr (hy hl)
  have hunlocked : ∀ {y : NvSlot}, y.scan.lock = false → y.scan.lock = true →
      lockedCount s.recorder.directory < maxLocked := fun hf hl => by rw [hf] at hl; cases hl
  unfold State.interrupt
  split
  · exact h.stored
  · rename_i b slot a w hop
    dsimp only
    split
    · split
      · rename_i ha
        exact hset fun _ => (h.sealFlies b slot a w hop).2.1 (Bool.and_eq_true_iff.mp ha).1
      · exact h.stored
    · split
      · exact hset (hunlocked (interruptedSlot_scan_lock ..))
      · exact h.stored
  · rename_i op written hop
    split
    · exact h.stored
    · exact h.stored
    · split
      · exact hset fun _ => (h.locking _ _ _ hop).2
      · exact h.stored
    · split
      · exact hset (hunlocked (NvSlot.withLock_scan_lock _))
      · exact h.stored
    · dsimp only
      split
      · rename_i hw
        rw [hw] at hop
        exact hset (hunlocked (NvSlot.scan_lock_of_empty (h.erasing _ _ hop)))
      · split
        · exact hset (hunlocked (erasedHeader_scan_lock ..))
        · exact h.stored

theorem IncidentInv.powerLoss (h : IncidentInv s) (hpow : s.powered = true) (x : NvProgress) : IncidentInv (s.powerLoss x) :=
  .dark (h.interrupt hpow x)

/-! ### Every command -/

theorem LiveIncident.keepsLive : State.KeepsLive fun u => ConfigInv u ∧ LiveIncident u where
  aside s t hst h := ⟨ConfigInv.keepsAll.aside s t hst h.1, LiveIncident.keepsTurns.aside s t hst h.2⟩
  lines s ps hl h := ⟨ConfigInv.keepsAll.lines s ps hl h.1, LiveIncident.keepsTurns.lines s ps hl h.2⟩
  event s f hf h := ⟨ConfigInv.keepsAll.event s f hf h.1, LiveIncident.keepsTurns.event s f hf h.2⟩
  order s l r h := ⟨ConfigInv.keepsAll.order s l r h.1, LiveIncident.keepsTurns.order s l r h.2⟩
  placeSeal s h := ⟨ConfigInv.keepsAll.placeSeal s h.1, LiveIncident.keepsTurns.placeSeal s h.2⟩
  grant s h := ⟨ConfigInv.keepsAll.grant s h.1, LiveIncident.keepsTurns.grant s h.2⟩
  reply s p k r d hroom h := ⟨ConfigInv.keepsAll.reply s p k r d hroom h.1, h.2.1.of_same rfl rfl rfl rfl rfl, h.2.2⟩
  arrive s x h := ⟨ConfigInv.keepsAll.arrive s x h.1, h.2.1.arrive x, h.2.2⟩
  sample s x h := ⟨ConfigInv.keepsAll.sample s x h.1, h.2.1.takeSample x, h.2.2⟩
  placed s k op hop hroom howed h := ⟨ConfigInv.keepsAll.placed s k op hop hroom howed h.1, h.2.1.placed hop, h.2.2⟩
  called s c howed h := ⟨ConfigInv.keepsAll.called s c howed h.1, h.2.1.of_same rfl rfl rfl rfl rfl, h.2.2⟩
  sealedState s h := ⟨ConfigInv.keepsAll.sealedState s h.1, h.2.1.sealedState h.2.2, by
    unfold State.sealedState
    split <;> exact h.2.2⟩
  headerWritten s h := ⟨ConfigInv.keepsAll.headerWritten s h.1, h.2.1.eraseHeaderWritten h.1 h.2.2, by
    unfold State.eraseHeaderWritten
    split
    · rw [State.emptied_rest]; exact h.2.2
    · exact h.2.2⟩
  completes s t ht h := ⟨ConfigInv.keepsAll.completes s t ht h.1, h.2.1.completes h.1 h.2.2 ht, ht.powered.trans h.2.2⟩
  restartIfDue s h := ⟨h.1.restartIfDue, h.2.restartIfDue⟩
  standstill s set h := ⟨ConfigInv.keepsAll.standstill s set h.1, h.2.1.of_same rfl rfl rfl rfl rfl, h.2.2⟩
  ends s p h := ⟨ConfigInv.keepsAll.ends s p h.1, h.2.1.of_same rfl rfl rfl rfl rfl, h.2.2⟩
  calls s cause h := ⟨ConfigInv.keepsAll.calls s cause h.1, LiveIncident.restartIfDue
    (s := { s with restart := some (s.restart.getD cause) }) ⟨h.2.1.of_same rfl rfl rfl rfl rfl, h.2.2⟩⟩
  powerOn s h := ⟨.powerOn s, .powerOn h.2.1.stored⟩
  time s h := ⟨ConfigInv.keepsAll.time s h.1, h.2.1.of_same rfl rfl rfl rfl rfl, h.2.2⟩

/-- Every command keeps the laws of the incident store. -/
theorem IncidentInv.exec {c : Instr} (hc : ConfigInv s) (h : IncidentInv s) (he : exec c s = .next t) : IncidentInv t := by
  cases hpow : s.powered with
  | true =>
    by_cases hloss : ∃ x, c = .powerLoss x
    · obtain ⟨x, rfl⟩ := hloss
      obtain rfl := Host.Outcome.next.inj ((powered_on hpow).symm.trans he)
      exact h.powerLoss hpow x
    · exact (LiveIncident.keepsLive.exec (fun x hx => hloss ⟨x, hx⟩) he ⟨hc, h, hpow⟩).2.1
  | false =>
    by_cases hon : c = .powerOnReset
    · subst hon
      obtain rfl : s.powerOn = t := Host.Outcome.next.inj he
      exact (LiveIncident.powerOn h.stored).1
    · obtain ⟨u, hu, hst⟩ := exec_unpowered hpow hon
      obtain rfl := Host.Outcome.next.inj (hu.symm.trans he)
      rw [hst.rest]
      exact h.of_same rfl rfl rfl rfl rfl

/-- Settles O60: the laws are kept by each change of which every command is made. -/
theorem incidentStoreKeepsItsLaws : Obligations.IncidentStoreKeepsItsLaws := by
  unfold Obligations.IncidentStoreKeepsItsLaws
  intro s t hc h hstep
  refine (step_keeps (P := fun u => ConfigInv u ∧ IncidentInv u) (fun rest => ?_) (fun c u he hu => ?_) ?_ ⟨hc, h⟩ hstep).2
  · exact ⟨hc.of_same rfl rfl rfl rfl rfl, h.of_same rfl rfl rfl rfl rfl⟩
  · exact ⟨ConfigInv.keepsAll.exec he hu.1, hu.2.exec hu.1 he⟩
  · exact ⟨hc.of_same rfl rfl rfl rfl rfl, h.of_same rfl rfl rfl rfl rfl⟩

end

end Sys2Proof.Machine

/-! SUPPORT. What a step runs, and what the reception of a frame does to a link: the obligations O1, O2 and O7. -/

namespace Sys2Proof.Machine

section
variable {s : State}

/-! ### The step -/

/-- Settles O1: the front command is the one that is run. -/
theorem stepRunsFrontCommand : Obligations.StepRunsFrontCommand := by
  unfold Obligations.StepRunsFrontCommand
  intro c rest s h
  simp [step, h]

/-- Settles O2: by the two tests of a step that finds no command. -/
theorem emptyQueueTakesDeliveryOrTick : Obligations.EmptyQueueTakesDeliveryOrTick := by
  unfold Obligations.EmptyQueueTakesDeliveryOrTick
  intro s h
  refine ⟨fun c ds hd => ?_, fun hd hp => ?_, fun hd hp => ?_⟩
  · simp [step, h, hd]
  · simp [step, h, hd, hp]
  · simp [step, h, hd, hp]

/-! ### One event of the arbiter writes nothing but its table and its record -/

theorem Arbiter.Rest.refl (a : Arbiter) : Arbiter.Rest a a := rfl

theorem Arbiter.Rest.trans {a b c : Arbiter} (hb : Arbiter.Rest a b) (hc : Arbiter.Rest b c) : Arbiter.Rest a c := by
  unfold Arbiter.Rest at hb hc ⊢
  rw [hc, hb]

theorem Arbiter.Rest.foldl {f : Arbiter → Source → Arbiter} (hf : ∀ a g, Arbiter.Rest a (f a g)) :
    ∀ (l : List Source) (a : Arbiter), Arbiter.Rest a (l.foldl f a)
  | [], a => .refl a
  | g :: l, a => (hf a g).trans (Arbiter.Rest.foldl hf l (f a g))

theorem Arbiter.rest_reevaluate (a : Arbiter) : Arbiter.Rest a a.reevaluate := by
  unfold Arbiter.reevaluate
  cases a.candidate with
  | none => cases a.stack.getLast? <;> rfl
  | some c =>
    cases a.stack.getLast? <;> dsimp only <;> split <;> rfl

theorem Arbiter.rest_goIdle (a : Arbiter) (g : Source) : Arbiter.Rest a (a.goIdle g) := by
  unfold Arbiter.goIdle
  dsimp only
  split
  · exact Arbiter.Rest.trans (b := a.gone g) rfl (Arbiter.rest_reevaluate _)
  all_goals rfl

theorem Arbiter.rest_leaveIdle (a : Arbiter) (now : Nat) (g : Source) : Arbiter.Rest a (a.leaveIdle now g) := by
  unfold Arbiter.leaveIdle
  dsimp only
  split
  · split <;> rfl
  · rfl

theorem Arbiter.rest_refreshEfforts (cfg : ConfigSet) (a : Arbiter) :
    Arbiter.Rest a { a.refreshEfforts cfg with record := (a.refreshEfforts cfg).buildRecord } := by
  generalize (a.refreshEfforts cfg).buildRecord = r
  rfl

/-- Steps 2 and 3 of R8 and the record of R27 write the table and the record alone. -/
theorem Arbiter.rest_settle (cfg : ConfigSet) (now : Nat) (a : Arbiter) : Arbiter.Rest a (Arbiter.settle cfg now a) := by
  have release : ∀ b g, Arbiter.Rest b (Arbiter.release b g) := fun b g => by
    unfold Arbiter.release
    split
    · exact b.rest_goIdle g
    · exact .refl b
  have accept : ∀ b g, Arbiter.Rest b (Arbiter.accept now b g) := fun b g => by
    unfold Arbiter.accept
    split
    · exact b.rest_leaveIdle now g
    · exact .refl b
  exact (Arbiter.Rest.foldl release Source.all a).trans
    ((Arbiter.Rest.foldl accept Source.all a.goIdles).trans (Arbiter.rest_refreshEfforts cfg _))

/-! ### ALIVE (R165) -/

/-- A link that becomes FRESH is one event of the arbiter, which takes its copy and evaluates restraint (R173). -/
theorem Arbiter.takeSupervisionFresh_restraint (a : Arbiter) :
    a.takeSupervisionFresh = { a.withFresh .supervision with
      restraintRaised := a.restraintRaised && !(a.withFresh .supervision).restraintMet } := by
  unfold Arbiter.takeSupervisionFresh Arbiter.evaluateRestraint
  change (if (a.withFresh .supervision).restraintMet then _ else _) = _
  cases h : (a.withFresh .supervision).restraintMet with
  | true => rw [Bool.not_true, Bool.and_false]; rfl
  | false => rw [Bool.not_false, Bool.and_true]; rfl

theorem State.refreshLink_supervision (h : (s.ports.link.get .supervision).state ≠ .fresh) :
    s.refreshLink .supervision = State.arbiterEvent .takeSupervisionFresh
      { s with ports := s.ports.refresh .supervision s.time } := by
  simp [State.refreshLink, h]

theorem Arbiter.left_irrefl (a : Arbiter) (g : Source) : ¬ a.left a g := fun h => by
  obtain ⟨hidle, hnon⟩ := h
  rw [hidle] at hnon
  cases hnon

/-- Where no event reaches the arbiter nothing is reported. -/
theorem ArbiterReports.refl (s : State) : ArbiterReports s s where
  vent := (if_pos rfl).symm
  matrix := rfl
  rest := rfl
  quiet _ := rfl
  emergency h := absurd h (s.arbiter.left_irrefl _)
  penalty h := absurd h (s.arbiter.left_irrefl _)
  loss h := absurd h (s.arbiter.left_irrefl _)
  only _ hc hn := absurd hc hn

/-- What the supervision port's refresh does (R164, R173). -/
theorem State.refreshLink_refreshed (s : State) : LinkRefreshed .supervision s (s.refreshLink .supervision) where
  ports := s.refreshLink_ports .supervision
  kept h := by
    have hfresh : (s.ports.link.get .supervision).state = .fresh := h.resolve_right (by simp)
    simp [State.refreshLink, hfresh]
  reports := by
    rw [State.refreshLink_ports]
    rcases s.refreshLink_cases .supervision with he | ⟨f, -, -, he⟩ <;> rw [he]
    · exact .refl _
    · exact State.arbiterEvent_reports f _
  changed h _ := by
    rw [s.refreshLink_supervision h, State.arbiterEvent_arbiter]
    refine ⟨?_, fun hi => ?_⟩
    · rw [Arbiter.takeSupervisionFresh_restraint]
      exact Arbiter.rest_settle ..
    · exact Arbiter.follows_takeSupervisionFresh hi.lawful hi.conditioned s.cfg s.time
  laws h := ArbiterInv.keepsEvents.refreshLink .supervision h

theorem exec_alive (h : s.powered = true) : exec .alive s = .next (s.received .supervision) := by
  refine (powered_on h).trans (congrArg Host.Outcome.next ?_)
  rcases State.takeFrame_cases .supervision kindAlive 0 id s with he | ⟨r, hr, -⟩ | ⟨-, he⟩
  · exact he
  · exact absurd (Ports.judge_answer hr).1 (by decide)
  · exact he

/-- Settles O7: a received frame hunts and refreshes, and an ALIVE has no other effect. -/
theorem aliveRefreshesTheLink : Obligations.AliveRefreshesTheLink := by
  unfold Obligations.AliveRefreshesTheLink
  intro s h
  exact ⟨_, exec_alive h, rfl, State.refreshLink_refreshed _⟩

end

end Sys2Proof.Machine

/-! SUPPORT. The penalty sources S5, S6 and S8 end at standstill alone, but through a reset (R17): the obligation O57. -/

namespace Sys2Proof.Machine

section
variable {s t u : State}

/-! ### Predicates on what the ports and the arbiter hold -/

/-- Two states with the same queue of commands, arbiter, commands to the axles, ports and pending restart. -/
structure State.SameFront (s t : State) : Prop where
  pending : t.pending = s.pending := by rfl
  arbiter : t.arbiter = s.arbiter := by rfl
  commands : t.ledger.cmd = s.ledger.cmd := by rfl
  reason : t.ledger.lastReason = s.ledger.lastReason := by rfl
  ports : t.ports = s.ports := by rfl
  restart : t.restart = s.restart := by rfl

/-- A predicate that reads nothing but the front of the part, and that each change there keeps. -/
structure State.KeepsFront (P : State → Prop) : Prop where
  same : ∀ s t, s.SameFront t → P s → P t
  lines : ∀ s ps, s.ports.SameLines ps → P s → P { s with ports := ps }
  event : ∀ s f, Arbiter.Takes f → P s → P (s.arbiterEvent f)
  order : ∀ s l r, P s → P (State.order r { s with ledger := l })
  reply : ∀ s p k r d, s.ports.room p = true → P s → P (s.reply p k r d)
  deferred : ∀ s r d, P s → P (s.deferredReply r d)
  owed : ∀ s k, s.ports.room .service = true → s.ports.outstanding = none → P s →
    P { s with ports := { s.ports with outstanding := some k } }
  called : ∀ s c, s.ports.restartOwed = true → P s → P { s with restart := c }

section
variable {P : State → Prop}

theorem State.KeepsFront.keepsEvents (hP : State.KeepsFront P) : State.KeepsEvents P where
  aside _ _ hst := hP.same _ _ ⟨hst.pending, hst.arbiter, hst.commands, hst.reason, hst.ports, hst.restart⟩
  lines := hP.lines
  event := hP.event

theorem State.KeepsFront.grant (hP : State.KeepsFront P) (h : P u) : P u.grant := by
  rcases u.grant_cases with he | ⟨-, -, ⟨b, -, he⟩ | ⟨op, -, -, he⟩⟩ <;> rw [he]
  · exact h
  · rcases u.grantSeal_cases b with hs | ⟨slot, denied, -, hs⟩ <;> rw [hs]
    · exact h
    · exact hP.same u _ {} h
  · rcases u.grantService_cases op with ⟨-, hs⟩ | ⟨r, hs⟩ <;> rw [hs]
    · exact hP.same u _ {} h
    · exact hP.deferred { u with nv := { u.nv with serviceWait := none } } _ _ (hP.same u _ {} h)

theorem State.KeepsFront.completes (hP : State.KeepsFront P) (h : P u) (ht : u.Completes t) : P t := by
  cases ht with
  | sealed => exact hP.same u _ {} h
  | stored =>
    rename_i w x hop
    have hstored : P (u.storeWritten w) := by
      refine hP.event { u with store := ⟨writtenSet u.store.live w, .valid, u.store.sequence + 1⟩ } _ ?_ (hP.same u _ {} h)
      split
      · exact .takeConfigValid
      · exact .id
    refine hP.deferred _ _ _ ?_
    cases w with
    | none => exact hP.same _ _ {} hstored
    | some pv => exact hP.same _ _ {} (hP.keepsEvents.remeasured pv.1 hstored)
  | assigned => exact hP.deferred _ _ _ (hP.same u _ {} h)
  | locked => exact hP.deferred _ _ _ (hP.same u _ {} h)
  | unlocked => exact hP.deferred _ _ _ (hP.same u _ {} h)
  | erased =>
    rw [State.erased_rest]
    exact hP.deferred _ _ _ (hP.same u _ {} h)

theorem State.KeepsFront.keepsTurns (hP : State.KeepsFront P) : State.KeepsTurns P where
  toKeepsEvents := hP.keepsEvents
  order := hP.order
  placeSeal s h := by
    rw [State.placeSeal_eq]
    exact hP.same s _ {} h
  grant _ h := hP.grant h

theorem State.KeepsFront.keeps (hP : State.KeepsFront P) (hrestart : ∀ s, P s → P s.restartIfDue) : State.Keeps P where
  toKeepsTurns := hP.keepsTurns
  reply := hP.reply
  arrive s _ h := hP.same s _ {} h
  sample s _ h := hP.same s _ {} h
  placed s k _ _ hroom howed h := hP.same { s with ports := { s.ports with outstanding := some k } } _ {}
    (hP.owed s k hroom howed h)
  called := hP.called
  sealedState s h := by
    unfold State.sealedState
    split
    · exact hP.same s _ {} h
    · exact h
  headerWritten s h := by
    unfold State.eraseHeaderWritten
    split
    · rw [State.emptied_rest]; exact hP.same s _ {} h
    · exact h
  completes _ _ ht h := hP.same _ _ {} (hP.completes h ht)
  restartIfDue := hrestart

end

/-! ### No restart takes effect -/

/-- No restart is pending, or one that still owes its OK reply (R189). -/
def State.NoneDue (s : State) : Prop := s.restart = none ∨ s.ports.restartOwed = true

theorem State.NoneDue.restartIfDue (h : s.NoneDue) : s.restartIfDue = s := by
  unfold State.restartIfDue
  rcases h with h | h <;> rw [h]
  split
  · rfl
  · rw [Bool.not_true, Bool.and_false]; rfl

theorem State.NoneDue.of_ports (h : s.NoneDue) (hr : t.restart = s.restart)
    (hp : s.ports.restartOwed = true → t.ports.restartOwed = true) : t.NoneDue :=
  h.imp hr.trans hp

theorem Ports.restartOwed_handOrder {ps : Ports} {o : EffortOrder} (h : ps.restartOwed = true) :
    (ps.handOrder o).restartOwed = true :=
  Ports.restartOwed_start (ps := { ps with order := some o }) h

theorem State.deferredReply_owed {r : Result} {d : List Byte} (h : s.ports.restartOwed = true) :
    (s.deferredReply r d).ports.restartOwed = true := by
  rcases State.deferredReply_cases r d s with ⟨-, he⟩ | ⟨k, -, he⟩ <;> rw [he]
  · exact h
  · exact Ports.restartOwed_place h

/-! ### A penalty source that was non-idle -/

/-- What every change keeps of a penalty source `g` that was non-idle in the arbiter `a`. -/
structure PenaltyKept (a : Arbiter) (g : Source) (u : State) : Prop where
  laws : ArbiterInv u
  due : u.NoneDue
  standstill : u.arbiter.standstill = a.standstill
  kept : u.arbiter.nonIdle g = true ∨ a.standstill = true

variable {a : Arbiter} {g : Source}

theorem PenaltyKept.of_same (h : PenaltyKept a g u) (harb : t.arbiter = u.arbiter) (hr : t.restart = u.restart)
    (hp : u.ports.restartOwed = true → t.ports.restartOwed = true) : PenaltyKept a g t where
  laws := h.laws.of_arbiter harb
  due := h.due.of_ports hr hp
  standstill := harb ▸ h.standstill
  kept := harb ▸ h.kept

theorem PenaltyKept.event {f : Arbiter → Arbiter} (hg : g = .s8 ∨ g = .s5 ∨ g = .s6) (hf : Arbiter.Takes f)
    (h : PenaltyKept a g u) : PenaltyKept a g (u.arbiterEvent f) where
  laws := h.laws.event hf
  due := h.due
  standstill := by
    rw [State.arbiterEvent_arbiter, (Arbiter.settle_settled (h.laws.lawful.takes hf) _ _).flags.standstill, hf.standstill]
    exact h.standstill
  kept := by
    rw [State.arbiterEvent_arbiter, (Arbiter.settle_settled (h.laws.lawful.takes hf) _ _).nonIdle]
    rcases h.kept with hnon | hstill
    · rw [h.laws.conditioned g] at hnon
      exact (hf.penalties _ g hg hnon).imp_right h.standstill.symm.trans
    · exact .inr hstill

theorem PenaltyKept.keeps (hg : g = .s8 ∨ g = .s5 ∨ g = .s6) : State.Keeps (PenaltyKept a g) :=
  State.KeepsFront.keeps
    { same := fun _ _ hst h => h.of_same hst.arbiter hst.restart (by rw [hst.ports]; exact id)
      lines := fun _ _ hl h => h.of_same rfl rfl fun ho => by
        rw [Ports.restartOwed_iff] at ho ⊢
        rwa [hl.line]
      event := fun _ _ hf h => h.event hg hf
      order := fun s _ _ h => h.of_same rfl rfl fun ho => Ports.restartOwed_handOrder (ps := s.ports) ho
      reply := fun _ _ _ _ _ _ h => h.of_same rfl rfl Ports.restartOwed_place
      deferred := fun _ _ _ h => h.of_same (State.deferredReply_arbiter ..) (State.deferredReply_restart ..)
        State.deferredReply_owed
      owed := fun _ _ _ _ h => h.of_same rfl rfl id
      called := fun _ _ howed h => ⟨h.laws.of_arbiter rfl, .inr howed, h.standstill, h.kept⟩ }
    fun _ h => by rwa [h.due.restartIfDue]

/-! ### A change of standstill -/

/-- Without standstill a change of the flag that clears it examines no raiser (R22). -/
theorem Arbiter.takeStandstill_clear (cfg : ConfigSet) (now : Nat) (a : Arbiter) :
    a.takeStandstill cfg now false = { a with standstill := false } := rfl

theorem Arbiter.takeStandstill_standstill (cfg : ConfigSet) (now : Nat) (set : Bool) (a : Arbiter) :
    (a.takeStandstill cfg now set).standstill = set := by
  cases set with
  | false => rfl
  | true =>
    unfold Arbiter.takeStandstill Arbiter.evaluateRaisers
    dsimp only
    split
    · split <;> rfl
    · contradiction

/-- A change of the flag to clear moves no penalty source. -/
theorem ArbiterInv.standstillChange_kept (h : ArbiterInv s) (hg : g = .s8 ∨ g = .s5 ∨ g = .s6) (set : Bool)
    (hnon : s.arbiter.nonIdle g = true) :
    (s.standstillChange set).arbiter.nonIdle g = true ∨ (s.standstillChange set).arbiter.standstill = true := by
  have hset : Arbiter.Settled s.cfg _ (s.standstillChange set).arbiter :=
    Arbiter.settle_settled (h.lawful.takeStandstill s.cfg s.time set) _ s.time
  cases set with
  | true => exact .inr (hset.flags.standstill.trans (Arbiter.takeStandstill_standstill ..))
  | false =>
    rw [hset.nonIdle]
    rw [h.conditioned g] at hnon
    exact .inl (by rcases hg with rfl | rfl | rfl <;> exact hnon)

/-! ### Every command -/

/-- Settles O57: no change but a reset lets a penalty source end on the move. -/
theorem penaltiesEndAtStandstill : Obligations.PenaltiesEndAtStandstill := by
  unfold Obligations.PenaltiesEndAtStandstill
  intro c g s t h he hg hon hloss hline hrestart hnon hidle
  have hmoved : t.arbiter ≠ s.arbiter := fun harb => by rw [harb, hnon] at hidle; cases hidle
  cases hp : s.powered with
  | false =>
    obtain ⟨u, hu, hst⟩ := exec_unpowered hp hon
    obtain rfl := Host.Outcome.next.inj (hu.symm.trans he)
    exact absurd (by rw [hst.rest]) hmoved
  | true =>
    cases ha : apart c with
    | false =>
      have hk : PenaltyKept s.arbiter g t := (PenaltyKept.keeps hg).exec ha he ⟨h, .inl hrestart, rfl, .inl hnon⟩
      exact .inl (hk.kept.resolve_left (by simp [hidle]))
    | true =>
      cases c with
      | standstillChange set =>
        obtain rfl := Host.Outcome.next.inj ((delivered_on hp).symm.trans he)
        have hkept := ArbiterInv.standstillChange_kept
          (s := { s with deliveries := s.deliveries.erase (.standstillChange set) }) (h.of_arbiter rfl) hg set hnon
        rw [hidle] at hkept
        exact .inr (hkept.resolve_left (by simp))
      | transmissionEnds p =>
        obtain rfl := Host.Outcome.next.inj ((powered_on hp).symm.trans he)
        have hdue : State.NoneDue { s with ports := s.ports.endTransmission p } := .inl hrestart
        exact absurd (by rw [State.transmissionEnds, hdue.restartIfDue]) hmoved
      | restartLineAsserted => exact absurd rfl hline
      | powerOnReset => exact absurd rfl hon
      | powerLoss x => exact absurd rfl (hloss x)
      | _ => cases ha

end

end Sys2Proof.Machine

/-! SUPPORT. The bounds of the queues, the histories and the stored headers: the obligation O58. -/

namespace Sys2Proof.Machine

section
variable {s t : State}

/-! ### Keeping a predicate on the front through every command -/

/-- A predicate on the front that the changes apart and the resets keep too is kept by every command. -/
theorem State.KeepsFront.keepsAll {P : State → Prop} (hP : State.KeepsFront P)
    (hwarm : ∀ s c, P s → P (s.warmRestart c)) (hstand : ∀ s set, P s → P (s.standstillChange set))
    (hends : ∀ s p, P s → P { s with ports := s.ports.endTransmission p }) (hcalls : ∀ s c, P s → P { s with restart := c })
    (hon : ∀ s, P s → P s.powerOn) (hloss : ∀ s x, P s → P (s.powerLoss x)) : State.KeepsAll P :=
  have hdue : ∀ s, P s → P s.restartIfDue := fun s h => by
    rcases s.restartIfDue_cases with he | ⟨cause, -, -, -, he⟩ <;> rw [he]
    · exact h
    · exact hwarm s cause h
  { hP.keeps hdue with
    standstill := hstand
    ends := hends
    calls := fun s cause h => hdue { s with restart := some (s.restart.getD cause) } (hcalls s _ h)
    powerOn := hon
    time := fun s h => hP.same s _ {} h
    powerLoss := fun s x _ h => hloss s x h }

/-! ### The queue of commands -/

theorem State.warmRestart_pending (s : State) (cause : ResetCause) : (s.warmRestart cause).pending = s.pending := by
  unfold State.warmRestart State.concludeReset
  dsimp only
  rw [State.nvTurn_pending]
  split <;> rfl

theorem State.powerOn_pending (s : State) : s.powerOn.pending = s.pending := by
  unfold State.powerOn State.concludeReset
  dsimp only
  rw [State.nvTurn_pending]
  split <;> rfl

theorem State.interrupt_pending (x : NvProgress) (s : State) : (s.interrupt x).pending = s.pending := by
  unfold State.interrupt
  split
  · rfl
  · dsimp only; split <;> split <;> rfl
  · split
    · rfl
    · rfl
    · split <;> rfl
    · split <;> rfl
    · dsimp only
      split
      · rfl
      · split <;> rfl

theorem pending_keepsAll (q : List Instr) : State.KeepsAll fun u => u.pending = q :=
  State.KeepsFront.keepsAll
    { same := fun _ _ hst h => hst.pending.trans h
      lines := fun _ _ _ h => h
      event := fun _ _ _ h => h
      order := fun _ _ _ h => h
      reply := fun _ _ _ _ _ _ h => h
      deferred := fun _ _ _ h => (State.deferredReply_pending ..).trans h
      owed := fun _ _ _ _ h => h
      called := fun _ _ _ h => h }
    (fun s c h => (s.warmRestart_pending c).trans h) (fun _ _ h => h) (fun _ _ h => h) (fun _ _ h => h)
    (fun s h => s.powerOn_pending.trans h) (fun s x h => (s.interrupt_pending x).trans h)

/-! ### The effort order that waits -/

theorem OrderInv.of_order (h : OrderInv s) (ho : t.ports.order = s.ports.order ∨ t.ports.order = none)
    (hcmd : t.ledger.cmd = s.ledger.cmd) (hreason : t.ledger.lastReason = s.ledger.lastReason) : OrderInv t := by
  intro o hot
  rw [hcmd, hreason]
  rcases ho with ho | ho <;> rw [ho] at hot
  · exact h o hot
  · cases hot

theorem OrderInv.of_none (h : s.ports.order = none) : OrderInv s := fun o ho => by rw [h] at ho; cases ho

theorem OrderInv.ordered (s : State) (l : Ledger) (r : OrderReason) : OrderInv (State.order r { s with ledger := l }) := by
  intro o ho
  rw [State.order_ports] at ho
  rcases Ports.start_order { s.ports with order := some _ } .traction with h | h
  · rw [Ports.handOrder, h] at ho
    cases ho
    exact ⟨rfl, rfl⟩
  · rw [Ports.handOrder, h] at ho
    cases ho

theorem State.deferredReply_order (r : Result) (d : List Byte) (s : State) :
    (s.deferredReply r d).ports.order = s.ports.order ∨ (s.deferredReply r d).ports.order = none := by
  rcases State.deferredReply_cases r d s with ⟨-, he⟩ | ⟨k, -, he⟩ <;> rw [he]
  · exact .inl rfl
  · exact Ports.place_order ..

theorem Ports.endTransmission_order (ps : Ports) (p : PortId) :
    (ps.endTransmission p).order = ps.order ∨ (ps.endTransmission p).order = none := by
  unfold Ports.endTransmission
  split
  · exact .inl rfl
  · exact Ports.start_order (ps.withPort p _) p

theorem OrderInv.keepsFront : State.KeepsFront OrderInv where
  same _ _ hst h := h.of_order (by rw [hst.ports]; exact .inl rfl) hst.commands hst.reason
  lines _ _ hl h := h.of_order (.inl hl.order) rfl rfl
  event _ _ _ h := h.of_order (.inl rfl) rfl rfl
  order s l r _ := .ordered s l r
  reply _ _ _ _ _ _ h := h.of_order (Ports.place_order ..) rfl rfl
  deferred _ _ _ h := h.of_order (State.deferredReply_order ..) (by rw [State.deferredReply_ledger])
    (by rw [State.deferredReply_ledger])
  owed _ _ _ _ h := h.of_order (.inl rfl) rfl rfl
  called _ _ _ h := h.of_order (.inl rfl) rfl rfl

theorem OrderInv.keepsAll : State.KeepsAll OrderInv :=
  OrderInv.keepsFront.keepsAll (fun _ _ _ => OrderInv.keepsFront.keepsTurns.concludeReset fun _ => .of_none rfl)
    (fun _ _ h => h.of_order (.inl rfl) rfl rfl) (fun s p h => h.of_order (s.ports.endTransmission_order p) rfl rfl)
    (fun _ _ h => h.of_order (.inl rfl) rfl rfl)
    (fun _ _ => OrderInv.keepsFront.keepsTurns.concludeReset fun _ => .of_none rfl) (fun _ _ _ => .of_none rfl)

/-! ### The replies that wait -/

theorem Ports.waiting_le_of {a b : Ports} {q : PortId} {n : Nat} (ho : b.outstanding = a.outstanding)
    (hr : (b.port.get q).replies.length ≤ (a.port.get q).replies.length + n) : b.waiting q ≤ a.waiting q + n := by
  unfold Ports.waiting
  rw [ho]
  omega

theorem Ports.start_waiting_le (ps : Ports) (p q : PortId) : (ps.start p).waiting q ≤ ps.waiting q := by
  refine Ports.waiting_le_of (n := 0) (Ports.start_outstanding ps p) ?_
  rcases ps.start_cases p with h | ⟨_, -, -, -, h⟩ | ⟨f, fs, hr, -, h⟩ <;> rw [h]
  · exact Nat.le_refl _
  all_goals
    by_cases hq : q = p
    · subst hq; simp [Ports.withPort, *]
    · simp [Ports.withPort, PerPort.get_set_ne _ _ hq]

theorem Ports.place_waiting_le (ps : Ports) (p q : PortId) (f : Frame) :
    (ps.place p f).waiting q ≤ ps.waiting q + if q = p then 1 else 0 := by
  refine Nat.le_trans (Ports.start_waiting_le _ p q) (Ports.waiting_le_of (n := if q = p then 1 else 0) rfl ?_)
  by_cases hq : q = p
  · subst hq; simp [Ports.withPort]
  · simp [Ports.withPort, PerPort.get_set_ne _ _ hq]

theorem Ports.endTransmission_waiting_le (ps : Ports) (p q : PortId) : (ps.endTransmission p).waiting q ≤ ps.waiting q := by
  unfold Ports.endTransmission
  split
  · exact Nat.le_refl _
  · refine Nat.le_trans (Ports.start_waiting_le _ p q) (Ports.waiting_le_of (n := 0) rfl ?_)
    by_cases hq : q = p
    · subst hq; simp [Ports.withPort]
    · simp [Ports.withPort, PerPort.get_set_ne _ _ hq]

/-- The place of an outstanding request is that of its deferred reply (R167). -/
theorem State.deferredReply_waiting_le (r : Result) (d : List Byte) (s : State) (q : PortId) :
    (s.deferredReply r d).ports.waiting q ≤ s.ports.waiting q := by
  rcases State.deferredReply_cases r d s with ⟨-, he⟩ | ⟨k, ho, he⟩
  · exact Nat.le_of_eq (congrArg (fun u : State => u.ports.waiting q) he)
  · rw [he]
    have hle := s.ports.place_waiting_le .service q (replyFrame k r d)
    simp only [Ports.waiting, Ports.place_outstanding, ho, Option.isSome_some, Option.isSome_none, and_true,
      Bool.false_eq_true, and_false, if_false] at hle ⊢
    omega

theorem QueueInv.of_le (h : QueueInv s) (hle : ∀ p, t.ports.waiting p ≤ s.ports.waiting p) : QueueInv t :=
  fun p => Nat.le_trans (hle p) (h p)

theorem QueueInv.of_ports (h : QueueInv s) (hports : t.ports = s.ports) : QueueInv t :=
  h.of_le fun p => Nat.le_of_eq (congrArg (Ports.waiting · p) hports)

theorem QueueInv.of_reset (h : s.ports = .afterReset) : QueueInv s := fun p => by
  rw [h]
  cases p <;> decide

theorem QueueInv.reply {p : PortId} {k : Byte} {r : Result} {d : List Byte} (hroom : s.ports.room p = true)
    (h : QueueInv s) : QueueInv (s.reply p k r d) := fun q => by
  have hle := s.ports.place_waiting_le p q (replyFrame k r d)
  have hq := h q
  simp only [Ports.room, decide_eq_true_eq] at hroom
  rw [State.reply_ports]
  split at hle
  · rename_i hqp
    subst hqp
    omega
  · omega

theorem QueueInv.owed {k : Byte} (hroom : s.ports.room .service = true) (howed : s.ports.outstanding = none)
    (h : QueueInv s) : QueueInv { s with ports := { s.ports with outstanding := some k } } := fun q => by
  have hq := h q
  simp only [Ports.room, decide_eq_true_eq] at hroom
  simp only [Ports.waiting, howed, Option.isSome_none, Option.isSome_some, and_true, Bool.false_eq_true, and_false,
    if_false] at hq hroom ⊢
  split
  · rename_i hqs
    subst hqs
    omega
  · omega

theorem QueueInv.keepsFront : State.KeepsFront QueueInv where
  same _ _ hst h := h.of_ports hst.ports
  lines _ _ hl h := h.of_le fun p => Nat.le_of_eq (hl.waiting p)
  event _ _ _ h := h.of_ports rfl
  order s _ _ h := h.of_le fun p => Ports.handOrder_waiting s.ports _ p
  reply _ _ _ _ _ hroom h := h.reply hroom
  deferred s r d h := h.of_le (s.deferredReply_waiting_le r d)
  owed _ _ hroom howed h := h.owed hroom howed
  called _ _ _ h := h.of_ports rfl

theorem QueueInv.keepsAll : State.KeepsAll QueueInv :=
  QueueInv.keepsFront.keepsAll (fun _ _ _ => QueueInv.keepsFront.keepsTurns.concludeReset fun _ => .of_reset rfl)
    (fun _ _ h => h.of_ports rfl) (fun s p h => h.of_le (s.ports.endTransmission_waiting_le p))
    (fun _ _ h => h.of_ports rfl)
    (fun _ _ => QueueInv.keepsFront.keepsTurns.concludeReset fun _ => .of_reset rfl) (fun _ _ _ => .of_reset rfl)

/-! ### The histories and the trigger lists -/

/-- The laws read the lengths of the histories, the trigger lists and the headers alone. -/
theorem Bounded.of_same (h : Bounded s) (hring : t.recorder.ring.length ≤ 64) (hwatch : t.watch = s.watch)
    (hmonitor : t.monitor.axles = s.monitor.axles)
    (hbuf : ∀ b : Fin 2, (t.recorder.buffers[b]).entries.length ≤ 6)
    (hslots : ∀ i : Fin 12, (t.array.slots[i]).header.length = 58) : Bounded t where
  ring := hring
  readings := by rw [hwatch]; exact h.readings
  pulses := by rw [hmonitor]; exact h.pulses
  speeds := by rw [hmonitor]; exact h.speeds
  entries := hbuf
  headers := hslots

theorem Bounded.of_kept (h : Bounded s) (hwatch : t.watch = s.watch) (hmonitor : t.monitor.axles = s.monitor.axles)
    (hrec : t.recorder = s.recorder) (harray : t.array.slots = s.array.slots) : Bounded t :=
  h.of_same (hrec ▸ h.ring) hwatch hmonitor (hrec ▸ h.entries) (harray ▸ h.headers)

/-- One buffer replaced by one with no more trigger entries than six. -/
theorem length_entries_set {bs : Vector Buffer 2} {i : Fin 2} {x : Buffer} (h : ∀ b : Fin 2, (bs[b]).entries.length ≤ 6)
    (hx : x.entries.length ≤ 6) (b : Fin 2) : ((bs.set i x)[b]).entries.length ≤ 6 := by
  rw [getElem_set_fin]
  split
  · exact hx
  · exact h b

theorem length_headers_set {slots : Vector NvSlot 12} {i : Fin 12} {x : NvSlot}
    (h : ∀ j : Fin 12, (slots[j]).header.length = 58) (hx : x.header.length = 58) (j : Fin 12) :
    ((slots.set i x)[j]).header.length = 58 := by
  rw [getElem_set_fin]
  split
  · exact hx
  · exact h j

theorem Buffer.length_entries_join {x : Trigger} {b : Buffer} (h : b.entries.length ≤ 6) :
    (b.join x).entries.length ≤ 6 := by
  unfold Buffer.join
  split
  · rw [List.length_append, List.length_singleton]; omega
  · exact h

theorem Buffer.entries_sample (x : Sample) (b : Buffer) : (b.sample x).entries = b.entries := by
  unfold Buffer.sample
  split <;> rfl

theorem Buffer.entries_atRestart (b : Buffer) : b.atRestart.entries = b.entries := by
  unfold Buffer.atRestart
  split <;> rfl

theorem length_pushRing_le {ring : List Sample} (x : Sample) : (pushRing ring x).length ≤ 64 := by
  unfold pushRing
  split
  · rw [List.length_append, List.length_singleton]; omega
  · rw [List.length_drop, List.length_append, List.length_singleton]; omega

/-! ### The bytes of a stored header (section 8.9) -/

theorem length_bytes16 (w : Word16) : (bytes16 w).length = 2 := rfl

theorem length_bytes32 (w : Word32) : (bytes32 w).length = 4 := rfl

theorem length_two (n : Nat) : (two n).length = 2 := rfl

theorem length_four (n : Nat) : (four n).length = 4 := rfl

theorem TriggerEntry.length_bytes (e : TriggerEntry) : e.bytes.length = 5 := rfl

theorem length_flatMap_entries (l : List TriggerEntry) : (l.flatMap TriggerEntry.bytes).length = 5 * l.length := by
  induction l with
  | nil => rfl
  | cons e l ih => rw [List.flatMap_cons, List.length_append, ih, TriggerEntry.length_bytes, List.length_cons]; omega

theorem Buffer.length_headerFields {b : Buffer} (h : b.entries.length ≤ 6) : b.headerFields.length = 54 := by
  unfold Buffer.headerFields
  simp only [List.length_append, length_four, length_two, length_bytes32, List.length_cons,
    List.length_nil, List.length_replicate, length_flatMap_entries]
  omega

theorem length_sealedSlot {b : Buffer} {st : SlotState} {lock : Bool} (h : b.entries.length ≤ 6) :
    (sealedSlot b st lock).header.length = 58 := by
  simp only [sealedSlot, List.length_append, List.length_cons, List.length_nil, Buffer.length_headerFields h, length_bytes16]

theorem length_interruptedSlot {k n : Nat} {b : Buffer} {crc : Bool} (h : b.entries.length ≤ 6) :
    (interruptedSlot k b n crc).header.length = 58 := by
  simp only [interruptedSlot, List.length_append, List.length_cons, List.length_nil, Buffer.length_headerFields h]
  split <;> rfl

theorem length_erasedHeader {k : Nat} {header : List Byte} (h : header.length = 58) :
    (erasedHeader k header).length = 58 := by
  simp only [erasedHeader, List.length_append, List.length_cons, List.length_nil, List.length_take, List.length_drop, h,
    List.length_map, List.length_range]
  rfl

theorem length_withLock {x : NvSlot} {lock : Bool} (h : x.header.length = 58) : (x.withLock lock).header.length = 58 := by
  rw [NvSlot.withLock, List.length_set, h]

/-! ### Every change keeps the bounds -/

theorem Bounded.keepsTurns : State.KeepsTurns Bounded where
  aside _ _ hst h :=
    { ring := hst.ring ▸ h.ring
      readings := hst.history h.readings
      pulses := fun i => hst.pulses i (h.pulses i)
      speeds := fun i => hst.speeds i (h.speeds i)
      entries := hst.buffers ▸ h.entries
      headers := hst.array ▸ h.headers }
  lines _ _ _ h := h.of_kept rfl rfl rfl rfl
  event _ _ _ h := h.of_kept rfl rfl rfl rfl
  order _ _ _ h := h.of_kept rfl rfl rfl rfl
  placeSeal s h := by
    rw [State.placeSeal_eq]
    exact h.of_kept rfl rfl rfl rfl
  grant s h := by
    rcases s.grant_cases with he | ⟨-, -, ⟨b, -, he⟩ | ⟨op, -, -, he⟩⟩ <;> rw [he]
    · exact h
    · rcases s.grantSeal_cases b with hs | ⟨slot, denied, -, hs⟩ <;> rw [hs]
      · exact h
      · exact h.of_same h.ring rfl rfl (length_entries_set h.entries (h.entries b)) h.headers
    · rcases s.grantService_cases op with ⟨-, hs⟩ | ⟨r, hs⟩ <;> rw [hs]
      · exact h.of_kept rfl rfl rfl rfl
      · refine h.of_kept ?_ ?_ ?_ ?_ <;> simp [State.grantedNothing]

theorem Bounded.completes (h : Bounded s) (ht : s.Completes t) : Bounded t := by
  cases ht with
  | sealed =>
    exact h.of_same h.ring rfl rfl (length_entries_set h.entries (Nat.zero_le 6))
      (length_headers_set h.headers (length_sealedSlot (h.entries _)))
  | stored =>
    rename_i w x hop
    have hstored : Bounded (s.storeWritten w) := h.of_kept rfl rfl rfl rfl
    have hdeferred : ∀ {u : State}, Bounded u → Bounded (u.writeImage.deferredReply .ok []) := fun hu => by
      refine hu.of_kept ?_ ?_ ?_ ?_ <;> simp [State.writeImage]
    unfold State.configStored
    cases w with
    | none => exact hdeferred hstored
    | some pv => exact hdeferred (Bounded.keepsTurns.remeasured pv.1 hstored)
  | assigned => refine h.of_kept ?_ ?_ ?_ ?_ <;> simp [State.writeImage, State.assigned]
  | locked | unlocked =>
    refine h.of_same ?_ ?_ ?_ ?_ ?_
    · rw [State.deferredReply_recorder]; exact h.ring
    · rw [State.deferredReply_watch]; rfl
    · rw [State.deferredReply_monitor]; rfl
    · rw [State.deferredReply_recorder]; exact h.entries
    · rw [State.deferredReply_array]; exact length_headers_set h.headers (length_withLock (h.headers _))
  | erased =>
    rename_i slot n x hop
    obtain ⟨body, hslots, hdir, hbuf⟩ := s.erased_slots slot x
    refine h.of_same ?_ ?_ ?_ ?_ ?_
    · rw [State.deferredReply_recorder]; cases x <;> exact h.ring
    · rw [State.deferredReply_watch, State.erased_rest]
    · rw [State.deferredReply_monitor, State.erased_rest]
    · rw [State.deferredReply_recorder, hbuf]; exact h.entries
    · rw [State.deferredReply_array, hslots]
      refine length_headers_set h.headers ?_
      cases x with
      | true => exact h.headers slot
      | false => exact length_erasedHeader (h.headers slot)

/-- What power loss leaves of the operation in flight leaves every header its 58 bytes (R187). -/
theorem Bounded.interrupt (h : Bounded s) (x : NvProgress) (i : Fin 12) :
    ((s.interrupt x).array.slots[i]).header.length = 58 := by
  unfold State.interrupt
  split
  · exact h.headers i
  · rename_i b slot a w hop
    dsimp only
    split <;> split
    · exact length_headers_set h.headers (length_sealedSlot (h.entries b)) i
    · exact h.headers i
    · exact length_headers_set h.headers (length_interruptedSlot (h.entries b)) i
    · exact h.headers i
  · rename_i op written hop
    split
    · exact h.headers i
    · exact h.headers i
    · split
      · exact length_headers_set h.headers (length_withLock (h.headers _)) i
      · exact h.headers i
    · split
      · exact length_headers_set h.headers (length_withLock (h.headers _)) i
      · exact h.headers i
    · rename_i slot n
      dsimp only
      split
      · refine length_headers_set h.headers ?_ i
        exact h.headers slot
      · split
        · exact length_headers_set h.headers (length_erasedHeader (h.headers slot)) i
        · exact h.headers i

/-- Histories and lists taken anew are empty. -/
theorem Bounded.of_reset {channels : PerAxle (Option (Fin 8))} {acc : Nat} {dist : Word32}
    (hring : s.recorder.ring.length ≤ 64) (hwatch : s.watch = .afterReset) (hmonitor : s.monitor = .afterReset channels acc dist)
    (hbuf : ∀ b : Fin 2, (s.recorder.buffers[b]).entries.length ≤ 6)
    (hslots : ∀ i : Fin 12, (s.array.slots[i]).header.length = 58) : Bounded s where
  ring := hring
  readings := by rw [hwatch]; exact Nat.zero_le 50
  pulses i := by rw [hmonitor]; simp [Monitor.afterReset]
  speeds i := by rw [hmonitor]; simp [Monitor.afterReset]
  entries := hbuf
  headers := hslots

theorem Bounded.warmRestart (h : Bounded s) (cause : ResetCause) : Bounded (s.warmRestart cause) :=
  Bounded.keepsTurns.concludeReset fun _ => .of_reset h.ring rfl rfl
    (fun b => by simpa [Recorder.afterWarm, Buffer.entries_atRestart] using h.entries b) h.headers

theorem Bounded.powerOn (h : Bounded s) : Bounded s.powerOn :=
  Bounded.keepsTurns.concludeReset fun _ => .of_reset (Nat.zero_le 64) rfl rfl
    (fun b => by simp [Recorder.afterPowerOn, Buffer.free]) h.headers

theorem Bounded.restartIfDue (h : Bounded s) : Bounded s.restartIfDue := by
  rcases s.restartIfDue_cases with he | ⟨cause, -, -, -, he⟩ <;> rw [he]
  · exact h
  · exact h.warmRestart cause

theorem Bounded.arrive (h : Bounded s) (x : Trigger) : Bounded (s.arrive x) := by
  unfold State.arrive Recorder.arrive
  dsimp only
  split
  · exact h.of_same h.ring rfl rfl (length_entries_set h.entries (Buffer.length_entries_join (h.entries _))) h.headers
  · exact h.of_same h.ring rfl rfl (length_entries_set h.entries (by simp [Buffer.open])) h.headers
  · exact h.of_kept rfl rfl rfl rfl

theorem Bounded.keepsAll : State.KeepsAll Bounded where
  toKeepsTurns := Bounded.keepsTurns
  reply _ _ _ _ _ _ h := h.of_kept rfl rfl rfl rfl
  arrive _ x h := h.arrive x
  sample s x h := h.of_same (length_pushRing_le _) rfl rfl
    (fun b => by simpa [Recorder.takeSample, Buffer.entries_sample] using h.entries b) h.headers
  placed _ _ _ _ _ _ h := h.of_kept rfl rfl rfl rfl
  called _ _ _ h := h.of_kept rfl rfl rfl rfl
  sealedState s h := by
    unfold State.sealedState
    split
    · exact h.of_same h.ring rfl rfl h.entries (length_headers_set h.headers (length_sealedSlot (h.entries _)))
    · exact h
  headerWritten s h := by
    unfold State.eraseHeaderWritten
    split
    · rename_i slot n hop
      exact h.of_same h.ring rfl rfl h.entries (length_headers_set h.headers (length_erasedHeader (h.headers slot)))
    · exact h
  completes _ _ ht h := (h.completes ht).of_kept rfl rfl rfl rfl
  restartIfDue _ h := h.restartIfDue
  standstill _ _ h := h.of_kept rfl rfl rfl rfl
  ends _ _ h := h.of_kept rfl rfl rfl rfl
  calls s cause h := Bounded.restartIfDue (s := { s with restart := some (s.restart.getD cause) })
    (h.of_kept rfl rfl rfl rfl)
  powerOn _ h := h.powerOn
  powerLoss s x _ h := Bounded.of_reset (s := s.powerLoss x) (Nat.zero_le 64) rfl rfl
    (fun b => by simp [State.powerLoss, State.dark, State.reset, Recorder.afterPowerOn, Buffer.free]) (h.interrupt x)
  time _ h := h.of_kept rfl rfl rfl rfl

/-- Settles O58: each bound is kept by every change that a command makes. -/
theorem boundsAreKept : Obligations.BoundsAreKept := by
  unfold Obligations.BoundsAreKept
  intro c s t he
  exact ⟨(pending_keepsAll s.pending).exec he rfl, OrderInv.keepsAll.exec he, QueueInv.keepsAll.exec he,
    Bounded.keepsAll.exec he⟩

end

end Sys2Proof.Machine

/-! SUPPORT. The frames of reports and requests (sections 8.1, 8.4 and 8.10): the obligations O4, O5 and O6. -/

namespace Sys2Proof.Machine

section
variable {s : State} {p : PortId} {kind : Byte} {payload : List Byte} {loops : LoopCurrents} {c : Instr}

/-! ### The bytes of a field put together again (R178) -/

theorem join16 (w : Word16) : (w.extractLsb' 8 8 ++ w.extractLsb' 0 8 : Word16) = w := by
  rw [BitVec.extractLsb'_append_extractLsb'_eq_extractLsb' (by rfl)]
  exact BitVec.extractLsb'_eq_self

theorem join32 (w : Word32) :
    (w.extractLsb' 24 8 ++ w.extractLsb' 16 8 ++ w.extractLsb' 8 8 ++ w.extractLsb' 0 8 : Word32) = w := by
  rw [BitVec.extractLsb'_append_extractLsb'_eq_extractLsb' (by rfl), BitVec.extractLsb'_append_extractLsb'_eq_extractLsb' (by rfl),
    BitVec.extractLsb'_append_extractLsb'_eq_extractLsb' (by rfl)]
  exact BitVec.extractLsb'_eq_self

/-! ### What a decoded frame is -/

/-- A command that a frame spells, with the kind and the payload length of that frame. -/
def FrameFits (c : Instr) (kind : Byte) (n : Nat) : Prop :=
  (encodeFrame c).isSome = true ∧ (reportLength kind = some n ∨ requestLength kind = some n)

theorem FrameFits.of_ite {k : Byte} {c₀ : Instr} {n : Nat} {rest : Option Instr} (hk : FrameFits c₀ k n)
    (hrest : rest = some c → FrameFits c kind n) (h : (if kind = k then some c₀ else rest) = some c) : FrameFits c kind n := by
  split at h
  · rename_i hkind
    cases h
    exact hkind ▸ hk
  · exact hrest h

theorem FrameFits.of_none {n : Nat} (h : none = some c) : FrameFits c kind n := by cases h

/-- A frame is decoded to a report or request, and its length is that of its kind. -/
theorem frameFits_of_frameOf (h : frameOf loops p kind payload = some c) : FrameFits c kind payload.length := by
  unfold frameOf at h
  split at h
  · rename_i hk
    split at h
    · rename_i hn
      cases h
      rw [hk, hn]
      exact ⟨rfl, .inl rfl⟩
    · cases h
  · split at h
    · exact .of_ite ⟨rfl, .inl rfl⟩ (.of_ite ⟨rfl, .inr rfl⟩ (.of_ite ⟨rfl, .inr rfl⟩ (.of_ite ⟨rfl, .inr rfl⟩
        (.of_ite ⟨rfl, .inr rfl⟩ (.of_ite ⟨rfl, .inr rfl⟩ (.of_ite ⟨rfl, .inr rfl⟩ (.of_ite ⟨rfl, .inr rfl⟩
        (.of_ite ⟨rfl, .inr rfl⟩ (.of_ite ⟨rfl, .inr rfl⟩ (.of_ite ⟨rfl, .inr rfl⟩ .of_none)))))))))) h
    · exact .of_ite ⟨rfl, .inr rfl⟩ (.of_ite ⟨rfl, .inr rfl⟩ (.of_ite ⟨rfl, .inr rfl⟩ (.of_ite ⟨rfl, .inr rfl⟩
        (.of_ite ⟨rfl, .inr rfl⟩ .of_none)))) h
    · exact .of_ite ⟨rfl, .inr rfl⟩ (.of_ite ⟨rfl, .inr rfl⟩ (.of_ite ⟨rfl, .inr rfl⟩ (.of_ite ⟨rfl, .inr rfl⟩
        (.of_ite ⟨rfl, .inr rfl⟩ .of_none)))) h
    · exact .of_ite ⟨rfl, .inr rfl⟩ .of_none h
    · exact .of_ite ⟨rfl, .inr rfl⟩ (.of_ite ⟨rfl, .inr rfl⟩ .of_none) h
    · exact .of_ite ⟨rfl, .inr rfl⟩ .of_none h
    · cases h

theorem decodeFrame_some (h : decodeFrame loops p kind payload = some c) :
    (encodeFrame c).isSome = true ∧ framed p kind payload.length = true := by
  unfold decodeFrame at h
  split at h
  · rename_i ha
    obtain ⟨hc, hlength⟩ := frameFits_of_frameOf h
    exact ⟨hc, by simpa [framed, ha] using hlength⟩
  · cases h

/-- A frame of its port and length is a report code with the length of its report, or a request of its port with its length. -/
theorem framed_iff {n : Nat} : framed p kind n = true ↔
    accepts p kind = true ∧ (reportLength kind = some n ∨ requestLength kind = some n) := by
  simp [framed]

theorem reportLength_of_request (hk : 16 ≤ kind.toNat) : reportLength kind = none := by
  unfold reportLength
  rw [if_neg, if_neg]
  all_goals
    rintro rfl
    exact absurd hk (by decide)

/-- No kind's length is above 120 (section 8.10). -/
theorem frameLength_le {n : Nat} (h : reportLength kind = some n ∨ requestLength kind = some n) : n ≤ 120 := by
  rcases h with h | h
  · unfold reportLength at h
    repeat' split at h
    all_goals cases h <;> decide
  · unfold requestLength at h
    repeat' split at h
    all_goals cases h <;> decide

/-! ### Round trip -/

theorem capabilityOf_bytes (axles : PerAxle AxleReport) (cutOut : Byte) (hold : Word16) :
    capabilityOf (axles.toList.flatMap (fun r => bytes16 r.available ++ bytes16 r.achieved) ++ [cutOut] ++ bytes16 hold) =
      .capabilityReport axles cutOut hold := by
  obtain ⟨⟨_, _⟩, ⟨_, _⟩, ⟨_, _⟩, ⟨_, _⟩, ⟨_, _⟩, ⟨_, _⟩⟩ := axles
  simp [capabilityOf, PerAxle.toList, bytes16, join16]

/-- Settles O4: each report and request by its payload, whose bytes join to its fields again. -/
theorem framesRoundTrip : Obligations.FramesRoundTrip := by
  unfold Obligations.FramesRoundTrip
  intro c p kind payload loops hwf hc hloops
  suffices h : decodeFrame loops p kind payload = some c from
    ⟨h, by
      obtain ⟨-, hn⟩ := framed_iff.mp (decodeFrame_some h).2
      exact frameLength_le hn⟩
  have of_frame : ∀ {p' : PortId} {k' : Byte} {bs : List Byte}, some (p', k', bs) = some (p, kind, payload) →
      accepts p' k' = true → frameOf loops p' k' bs = some c → decodeFrame loops p kind payload = some c :=
    fun he ha hf => by
      cases he
      exact (if_pos ha).trans hf
  cases c with
  | cabDemand d i a flags => exact of_frame hc rfl (by change some (Instr.cabDemand _ _ _ _) = _; rw [join16, join16, join16])
  | capabilityReport axles cutOut hold => exact of_frame hc rfl (congrArg some (capabilityOf_bytes axles cutOut hold))
  | intervene e => exact of_frame hc rfl (by change some (Instr.intervene _) = _; rw [join16])
  | penalty e => exact of_frame hc rfl (by change some (Instr.penalty _) = _; rw [join16])
  | freeze tag => exact of_frame hc rfl (by change some (Instr.freeze _) = _; rw [join16])
  | writeConfig code v => exact of_frame hc rfl (by change some (Instr.writeConfig _ _) = _; rw [join32])
  | readIncident slot e part => exact of_frame hc rfl (by change some (Instr.readIncident _ _ _) = _; rw [join32])
  | setMatch sl en co ax th => exact of_frame hc rfl (by change some (Instr.setMatch _ _ _ _ _) = _; rw [join16])
  | readChannel ch ls =>
    obtain rfl := hloops ch ls rfl
    exact of_frame hc rfl rfl
  | releaseEmergency q =>
    cases q with
    | cab | supervision => exact of_frame hc rfl rfl
    | traction | service => exact absurd hwf (by decide)
  | ledgerQuery q => cases q <;> exact of_frame hc rfl rfl
  | alive | withdrawElectric | resumeElectric | releasePenalty | emergency | identify | readConfig | confirmConfig
  | assignChannel | driveChannel | listIncidents | lockIncident | unlockIncident | eraseIncident | restart =>
    exact of_frame hc rfl rfl
  | _ => cases hc

/-! ### The judgement of a frame (R161) -/

theorem Ports.judge_report {ps : Ports} {n : Nat} (hk : kind.toNat < 16) (hf : framed p kind n = false) :
    ps.judge p kind n = .discard := by
  have hcode : isReportCode kind = true := decide_eq_true hk
  unfold Ports.judge
  rw [if_pos hcode, if_neg]
  intro h
  rw [Bool.and_eq_true, decide_eq_true_eq] at h
  rw [framed_iff.mpr ⟨h.1, .inl h.2⟩] at hf
  cases hf

theorem not_isReportCode (hk : 16 ≤ kind.toNat) : isReportCode kind = false := decide_eq_false (Nat.not_lt.mpr hk)

theorem Ports.judge_full {ps : Ports} {n : Nat} (hk : 16 ≤ kind.toNat) (hfull : 4 ≤ ps.waiting p) :
    ps.judge p kind n = .discard := by
  have hroom : ps.room p = false := decide_eq_false (Nat.not_lt.mpr hfull)
  simp [Ports.judge, not_isReportCode hk, hroom]

/-- What a frame that is no request of its port is answered, in the order of R161. -/
theorem Ports.judge_unframed {ps : Ports} {n : Nat} (hk : 16 ≤ kind.toNat) (hroom : ps.waiting p < 4)
    (hf : framed p kind n = false) :
    ps.judge p kind n = .answer (if requestLength kind = none then .unknownKind
      else if accepts p kind = false then .wrongPort else .badLength) := by
  have hr : ps.room p = true := decide_eq_true hroom
  simp only [Ports.judge, not_isReportCode hk, hr, Bool.false_eq_true, if_false, Bool.not_true]
  cases hl : requestLength kind with
  | none => simp
  | some m =>
    cases ha : accepts p kind with
    | false => simp
    | true =>
      have hn : n ≠ m := by
        rintro rfl
        rw [framed_iff.mpr ⟨ha, .inr hl⟩] at hf
        cases hf
      simp [hn]

theorem Ports.judge_busy {ps : Ports} {n : Nat} (hk : 16 ≤ kind.toNat) (hroom : ps.waiting .service < 4)
    (hf : framed .service kind n = true) (ho : ps.outstanding.isSome = true) : ps.judge .service kind n = .answer .busy := by
  have hr : ps.room .service = true := decide_eq_true hroom
  obtain ⟨ha, hl⟩ := framed_iff.mp hf
  rw [reportLength_of_request hk] at hl
  have hl' : requestLength kind = some n := hl.resolve_left (by simp)
  simp [Ports.judge, not_isReportCode hk, hr, hl', ha, ho]

/-- A frame that is discarded is received and has no other effect. -/
theorem State.takeFrame_discard {n : Nat} {act : State → State} (h : (s.received p).ports.judge p kind n = .discard) :
    s.takeFrame p kind n act = s.received p := by
  simp [State.takeFrame, h]

theorem State.takeFrame_answer {n : Nat} {act : State → State} {r : Result}
    (h : (s.received p).ports.judge p kind n = .answer r) : s.takeFrame p kind n act = (s.received p).reply p kind r [] := by
  simp [State.takeFrame, h]

theorem State.frame_of_long (h : 120 < payload.length) : s.frame p kind payload = s := if_pos h

theorem State.frame_of_none (hn : payload.length ≤ 120) (hf : framed p kind payload.length = false) :
    s.frame p kind payload = s.takeFrame p kind payload.length id := by
  have hnone : decodeFrame s.matrix.loops p kind payload = none := by
    cases hd : decodeFrame s.matrix.loops p kind payload with
    | none => rfl
    | some c =>
      rw [(decodeFrame_some hd).2] at hf
      cases hf
  unfold State.frame
  simp only [longestPayload, if_neg (Nat.not_lt.mpr hn), hnone]

theorem State.frame_of_some (hn : payload.length ≤ 120) (h : decodeFrame s.matrix.loops p kind payload = some c) :
    s.frame p kind payload = s.takeRequest c := by
  unfold State.frame
  simp only [longestPayload, if_neg (Nat.not_lt.mpr hn), h]

theorem exec_unknownKind (h : s.powered = true) : exec (.unknownKind p kind payload) s = .next (s.frame p kind payload) :=
  powered_on h

/-- Settles O5: by the steps of R161 in their order. -/
theorem receivedFrameIsJudged : Obligations.ReceivedFrameIsJudged := by
  unfold Obligations.ReceivedFrameIsJudged
  intro p kind payload s hpow
  simp only [exec_unknownKind hpow]
  refine ⟨fun hn => ?_, fun hn hf => ⟨fun hdis => ?_, fun hk hroom => ?_⟩, fun hn c hc => ?_⟩
  · rw [State.frame_of_long hn]
  · rw [State.frame_of_none hn hf, State.takeFrame_discard]
    rcases Nat.lt_or_ge kind.toNat 16 with hk | hk
    · exact Ports.judge_report hk hf
    · exact Ports.judge_full hk (by rw [State.received_waiting]; exact hdis.resolve_left (Nat.not_lt.mpr hk))
  · refine ⟨_, rfl, ?_⟩
    rw [State.frame_of_none hn hf,
      State.takeFrame_answer (Ports.judge_unframed hk (by rwa [State.received_waiting]) hf)]
    exact State.reply_replied ..
  · obtain ⟨x, hx⟩ := Option.isSome_iff_exists.mp (decodeFrame_some hc).1
    rw [exec_of_encodeFrame hx, powered_on hpow, State.frame_of_some hn hc]

/-- A report or request is taken by the frame that it is sent as; a READ CHANNEL brings its loop currents first (log 22). -/
theorem State.takeRequest_eq_takeFrame (hwf : c.wellFormed = true) (hc : encodeFrame c = some (p, kind, payload)) :
    ∃ s' act, (s' = s ∨ ∃ ch loops, c = .readChannel ch loops ∧ s' = s.withLoops loops)
      ∧ s.takeRequest c = s'.takeFrame p kind payload.length act := by
  cases c with
  | capabilityReport axles cutOut hold => cases hc; exact ⟨s, .actCapabilityReport axles cutOut hold, .inl rfl, rfl⟩
  | alive => cases hc; exact ⟨s, id, .inl rfl, rfl⟩
  | readChannel ch loops => cases hc; exact ⟨_, _, .inr ⟨ch, loops, rfl, rfl⟩, rfl⟩
  | cabDemand | releaseEmergency | ledgerQuery | withdrawElectric | resumeElectric
  | intervene | penalty | releasePenalty | emergency | freeze | identify | readConfig | writeConfig | confirmConfig
  | assignChannel | driveChannel | listIncidents | readIncident | lockIncident | unlockIncident
  | eraseIncident | setMatch | restart => cases hc; exact ⟨s, _, .inl rfl, rfl⟩
  | _ => cases hc

/-- Settles O6: the judgement of R161 before a request is taken. -/
theorem requestNotTaken : Obligations.RequestNotTaken := by
  unfold Obligations.RequestNotTaken
  intro c p kind payload s hpow hwf hc hk
  obtain ⟨s', act, hs', he⟩ := State.takeRequest_eq_takeFrame (s := s) hwf hc
  have hwait : (s'.received p).ports.waiting p = s.ports.waiting p := by
    rw [State.received_waiting]
    rcases hs' with rfl | ⟨ch, loops, -, rfl⟩ <;> rfl
  have howed : (s'.received p).ports.outstanding = s.ports.outstanding := by
    rw [State.received_outstanding]
    rcases hs' with rfl | ⟨ch, loops, -, rfl⟩ <;> rfl
  have hframed : framed p kind payload.length = true := by
    obtain ⟨ls, hls⟩ : ∃ ls, ∀ ch ls', c = .readChannel ch ls' → ls' = ls := by
      cases c with
      | readChannel ch ls => exact ⟨ls, fun _ _ h => by cases h; rfl⟩
      | _ => exact ⟨s.matrix.loops, fun _ _ h => by cases h⟩
    exact (decodeFrame_some (framesRoundTrip c p kind payload ls hwf hc hls).1).2
  refine ⟨s', _, hs', (exec_of_encodeFrame hc s).trans (powered_on hpow), fun hfull => ?_, fun hroom hp ho => ?_⟩
  · rw [he, State.takeFrame_discard (Ports.judge_full hk (hwait ▸ hfull))]
  · subst hp
    rw [he, State.takeFrame_answer (Ports.judge_busy hk (hwait ▸ hroom) hframed (howed ▸ ho))]
    exact State.reply_replied ..

end

end Sys2Proof.Machine

/-! SUPPORT. Requests of the cab, traction and supervision ports that are answered at once: the obligations O10, O12, O13 and O15. -/

namespace Sys2Proof.Machine

section
variable {s : State}

/-! ### LEDGER QUERY (R175) -/

/-- Every port accepts a LEDGER QUERY (section 8.4). -/
theorem accepts_ledgerQuery (p : PortId) : accepts p kindLedgerQuery = true := by cases p <;> rfl

theorem exec_ledgerQuery {p : PortId} (h : s.ready p) :
    exec (.ledgerQuery p) s = .next ((s.received p).reply p kindLedgerQuery .ok (ledgerSummary (s.received p))) :=
  powered_takeFrame h rfl (accepts_ledgerQuery p) rfl

theorem numberOf_four_mod (n : Nat) : numberOf (four n) = n % 4294967296 := by
  rw [four, numberOf_bytes32, BitVec.toNat_ofNat]

section
variable {b : Byte} {bs : List Byte} {pos n k : Nat}

/-! A field that stands before the place that is read, and the field that stands there. -/

theorem numberAt_cons : numberAt (b :: bs) (pos + 1) n = numberAt bs pos n := rfl

theorem numberAt_cons_zero : numberAt (byteOf k :: bs) 0 1 = k % 256 := numberOf_byteOf k

theorem numberAt_two : numberAt (two k ++ bs) (pos + 2) n = numberAt bs pos n := rfl

theorem numberAt_two_zero : numberAt (two k ++ bs) 0 2 = k % 65536 := numberOf_two k

theorem numberAt_four : numberAt (four k ++ bs) (pos + 4) n = numberAt bs pos n := rfl

theorem numberAt_four_zero : numberAt (four k ++ bs) 0 4 = k % 4294967296 := numberOf_four_mod k

theorem numberAt_stackBytes {stack : List Source} : numberAt (stackBytes stack ++ bs) (pos + 6) n = numberAt bs pos n := by
  unfold numberAt
  have hdrop : (stackBytes stack ++ bs).drop (pos + 6) = bs.drop pos := by
    rw [Nat.add_comm, ← List.drop_drop, ← length_stackBytes stack, List.drop_left]
  rw [hdrop]

theorem numberAt_axleSummary {i : Axle} : numberAt (axleSummary s i ++ bs) (pos + 12) n = numberAt bs pos n := rfl

theorem numberAt_axleSummary_zero {i : Axle} : numberAt (axleSummary s i ++ bs) 0 2 = s.ledger.cmd.get i % 65536 :=
  numberOf_two _

theorem numberAt_axleSummary_six {i : Axle} : numberAt (axleSummary s i ++ bs) 6 2 = (s.slide.axles.get i).lim % 65536 :=
  numberOf_two _

theorem numberAt_truckSummary {t : Truck} : numberAt (truckSummary s t ++ bs) (pos + 9) n = numberAt bs pos n := rfl

theorem numberAt_truckSummary_zero {t : Truck} : numberAt (truckSummary s t ++ bs) 0 2 = s.ledger.airForce.get t % 65536 :=
  numberOf_two _

theorem numberAt_truckSummary_two {t : Truck} : numberAt (truckSummary s t ++ bs) 2 2 = s.ledger.pressure.get t % 65536 :=
  numberOf_two _

end

theorem length_axleSummary (i : Axle) : (axleSummary s i).length = 12 := rfl

theorem length_truckSummary (t : Truck) : (truckSummary s t).length = 9 := rfl

theorem length_ledgerSummary (s : State) : (ledgerSummary s).length = 125 := by
  simp [ledgerSummary, Axle.all, length_stackBytes, length_two, length_four, length_axleSummary, length_truckSummary]

/-- The places of section 8.9 in the ledger summary. -/
theorem ledgerSummary_places (s : State) : (ledgerSummary s).length = 125
    ∧ numberAt (ledgerSummary s) 0 1 = s.ledger.demand.authority % 256
    ∧ numberAt (ledgerSummary s) 2 4 = governorStamp s.arbiter % 4294967296
    ∧ numberAt (ledgerSummary s) 12 2 = s.ledger.demand.blended % 65536
    ∧ numberAt (ledgerSummary s) 14 2 = s.ledger.demand.airFloor % 65536
    ∧ numberAt (ledgerSummary s) 24 2 = s.ledger.deficit % 65536
    ∧ (∀ i : Axle, numberAt (ledgerSummary s) (31 + 12 * (i.number - 1)) 2 = s.ledger.cmd.get i % 65536
      ∧ numberAt (ledgerSummary s) (37 + 12 * (i.number - 1)) 2 = (s.slide.axles.get i).lim % 65536)
    ∧ numberAt (ledgerSummary s) 103 2 = s.ledger.airForce.a % 65536
    ∧ numberAt (ledgerSummary s) 105 2 = s.ledger.pressure.a % 65536
    ∧ numberAt (ledgerSummary s) 112 2 = s.ledger.airForce.b % 65536
    ∧ numberAt (ledgerSummary s) 114 2 = s.ledger.pressure.b % 65536
    ∧ numberAt (ledgerSummary s) 121 2 = s.watch.pressure % 65536 := by
  refine ⟨length_ledgerSummary s, ?_, ?_, ?_, ?_, ?_, fun i => ⟨?_, ?_⟩, ?_, ?_, ?_, ?_, ?_⟩
  case refine_6 | refine_7 =>
    cases i <;> simp [ledgerSummary, Axle.all, Axle.number, numberAt_cons, numberAt_two, numberAt_four, numberAt_stackBytes,
      numberAt_axleSummary, numberAt_axleSummary_zero, numberAt_axleSummary_six]
  all_goals
    simp [ledgerSummary, Axle.all, numberAt_cons, numberAt_cons_zero, numberAt_two, numberAt_two_zero, numberAt_four,
      numberAt_four_zero, numberAt_stackBytes, numberAt_axleSummary, numberAt_truckSummary, numberAt_truckSummary_zero,
      numberAt_truckSummary_two, PerTruck.get]

/-- Settles O10: the reply of a ready port, and the summary's bytes at their places. -/
theorem ledgerQueryAnswered : Obligations.LedgerQueryAnswered := by
  unfold Obligations.LedgerQueryAnswered
  exact ⟨fun p s h => ⟨_, exec_ledgerQuery h, State.reply_replied ..⟩, ledgerSummary_places⟩

/-! ### The traction port's requests (R54, R55) -/

theorem guardedCommands_zero (emergency : Bool) (limits : PerAxle Nat) :
    guardedCommands emergency limits (PerAxle.ofFn fun _ => 0) = ⟨0, 0, 0, 0, 0, 0⟩ := by
  refine PerAxle.ext_get fun i => ?_
  cases emergency <;> cases i <;> simp [guardedCommands, PerAxle.ofFn, PerAxle.get]

theorem exec_withdrawElectric (h : s.ready .traction) :
    exec .withdrawElectric s = .next (s.received .traction).actWithdrawElectric :=
  powered_takeFrame h rfl rfl rfl

theorem exec_resumeElectric (h : s.ready .traction) :
    exec .resumeElectric s = .next (s.received .traction).actResumeElectric :=
  powered_takeFrame h rfl rfl rfl

/-- An order handed to the traction port, and a reply placed behind it, change that port and the order position alone (R163). -/
theorem Ports.handOrder_place_rest (ps : Ports) (o : EffortOrder) (f : Frame) :
    (ps.handOrder o).place .traction f = { ps with
      port := { ps.port with traction := ((ps.handOrder o).place .traction f).port.traction }
      order := ((ps.handOrder o).place .traction f).order } := by
  have hq := (ps.handOrder o).place_queued .traction f
  have hrest := ps.handOrder_rest o
  have hothers : ∀ q, q ≠ .traction → ((ps.handOrder o).place .traction f).port.get q = ps.port.get q := fun q hne => by
    rw [hq.others q hne, hrest]
    cases q <;> first | rfl | exact absurd rfl hne
  rw [← PerPort.eq_with_traction hothers]
  exact hq.rest.trans (by rw [hrest])

/-- What a taken WITHDRAW ELECTRIC does (R54, log 41). -/
theorem State.actWithdrawElectric_spec (s : State) :
    s.actWithdrawElectric.ledger =
      { s.ledger with withdrawn := true, cmd := ⟨0, 0, 0, 0, 0, 0⟩, lastReason := .withdraw }
    ∧ s.actWithdrawElectric.ports.line .traction = s.ports.port.traction.sending.toList
        ++ [EffortOrder.frame ⟨⟨0, 0, 0, 0, 0, 0⟩, .withdraw⟩] ++ s.ports.port.traction.replies
        ++ [replyFrame kindWithdrawElectric .ok []]
    ∧ s.actWithdrawElectric.ports.port.traction.assembly = s.ports.port.traction.assembly
    ∧ s.actWithdrawElectric = { s with
        ledger := s.actWithdrawElectric.ledger
        ports := { s.ports with
          port := { s.ports.port with traction := s.actWithdrawElectric.ports.port.traction }
          order := s.actWithdrawElectric.ports.order } } := by
  have hledger : s.actWithdrawElectric.ledger =
      { s.ledger with withdrawn := true, cmd := ⟨0, 0, 0, 0, 0, 0⟩, lastReason := .withdraw } := by
    rw [← guardedCommands_zero s.arbiter.record.emergency s.limits]
    rfl
  have hports : s.actWithdrawElectric.ports =
      (s.ports.handOrder ⟨⟨0, 0, 0, 0, 0, 0⟩, .withdraw⟩).place .traction (replyFrame kindWithdrawElectric .ok []) := by
    rw [← guardedCommands_zero s.arbiter.record.emergency s.limits]
    rfl
  have hq := (s.ports.handOrder ⟨⟨0, 0, 0, 0, 0, 0⟩, .withdraw⟩).place_queued .traction (replyFrame kindWithdrawElectric .ok [])
  refine ⟨hledger, ?_, ?_, ?_⟩
  · rw [hports, hq.line, Ports.handOrder_line]
  · rw [hports]
    exact hq.assembly.trans (Ports.handOrder_assembly ..)
  · rw [hports, ← Ports.handOrder_place_rest, ← hports]
    rfl

/-- Settles O12: the order goes to the traction port's line before the reply (log 41). -/
theorem electricWithdrawnAndResumed : Obligations.ElectricWithdrawnAndResumed := by
  unfold Obligations.ElectricWithdrawnAndResumed
  intro s h
  have hrec : s.received .traction = { s with ports :=
      { s.ports with port := { s.ports.port with traction := { s.ports.port.traction with assembly := .hunt } } } } :=
    State.received_eq (by decide) s
  refine ⟨⟨_, exec_withdrawElectric h, ?_⟩, ⟨_, exec_resumeElectric h, ?_⟩⟩
  · obtain ⟨hledger, hline, hassembly, hrest⟩ := (s.received .traction).actWithdrawElectric_spec
    rw [hrec] at hledger hline hassembly hrest ⊢
    exact ⟨hledger, hline, hassembly, hrest⟩
  · rw [State.actResumeElectric, State.received_ledger]
    exact State.reply_replied ..

/-! ### INTERVENE and PENALTY (R14, R15) -/

section
variable {a : Arbiter}

/-- An entry that holds no effort, and whose condition does not hold, holds none after an event (R1, R8). -/
theorem Arbiter.Lawful.settle_empty (ha : a.Lawful) {g : Source} (hg : g ∉ [.s0, .s1, .s3, .s6, .s7, .s8])
    (hforce : a.inForce g = 0) (hposted : (a.entries.get g).posted = 0) (hw : a.wants g = false) (cfg : ConfigSet) (now : Nat) :
    ((Arbiter.settle cfg now a).entries.get g).posted = 0 := by
  simp only [List.mem_cons, List.not_mem_nil, or_false, not_or] at hg
  obtain ⟨h0, h1, h3, h6, h7, h8⟩ := hg
  obtain ⟨hlaw, -, hidles, -⟩ := ha.goIdles
  obtain ⟨-, same, -⟩ := hlaw.leaveIdles now
  obtain ⟨-, -, -, -, hfresh, -⟩ := Arbiter.refreshEfforts_spec (a.goIdles.leaveIdles now) cfg
  obtain ⟨-, hposted'⟩ := hfresh g h6 h7 h8
  have hempty : a.goIdles.EmptyIfIdle g := ha.emptyIfIdle_goIdles (by simp [h0, h1, h3]) (fun _ => ⟨hforce, hposted⟩)
  obtain ⟨-, hposted0⟩ := hempty (by rw [hidles, hw, Bool.and_false])
  rw [Arbiter.entries_settle, hposted', same.posted, hposted0]

theorem Arbiter.follows_takeIntervene (ha : a.Lawful) (hc : a.Conditioned) (cfg : ConfigSet) (now : Nat) (effort : Word16) :
    Arbiter.Follows cfg now [.s4] a (Arbiter.settle cfg now (a.takeIntervene effort)) := by
  refine Arbiter.follows_settle ha hc cfg now _ (fun g => a.standing_withEfforts ..) rfl rfl
    (fun g => a.stamp_withEfforts ..) (fun g hg => ?_) (fun g hg _ _ _ => ?_)
  · cases g with
    | s4 => simp at hg
    | _ => rfl
  · have hne : g ≠ .s4 := by simpa using hg
    exact ⟨(a.posted_withEfforts ..).trans (if_neg hne), (a.inForce_withEfforts ..).trans (if_neg hne)⟩

theorem Arbiter.follows_takePenalty (ha : a.Lawful) (hc : a.Conditioned) (cfg : ConfigSet) (now : Nat) (effort : Word16) :
    Arbiter.Follows cfg now [.s5] a (Arbiter.settle cfg now (a.takePenalty effort)) := by
  refine Arbiter.follows_settle ha hc cfg now _ (fun g => a.standing_withEfforts .s5 g _ _) rfl rfl
    (fun g => a.stamp_withEfforts .s5 g _ _) (fun g hg => ?_) (fun g hg _ _ _ => ?_)
  · cases g with
    | s5 => simp at hg
    | _ => rfl
  · have hne : g ≠ .s5 := by simpa using hg
    exact ⟨(a.posted_withEfforts .s5 g _ _).trans (if_neg hne), (a.inForce_withEfforts .s5 g _ _).trans (if_neg hne)⟩

theorem Arbiter.rest_takeIntervene (a : Arbiter) (cfg : ConfigSet) (now : Nat) (effort : Word16) :
    Arbiter.Rest a (Arbiter.settle cfg now (a.takeIntervene effort)) :=
  have htake : Arbiter.Rest a (a.takeIntervene effort) := rfl
  htake.trans (Arbiter.rest_settle ..)

theorem Arbiter.rest_takePenalty (a : Arbiter) (cfg : ConfigSet) (now : Nat) (effort : Word16) :
    Arbiter.Rest { a with penaltyRaised := true } (Arbiter.settle cfg now (a.takePenalty effort)) :=
  have htake : Arbiter.Rest { a with penaltyRaised := true } (a.takePenalty effort) := rfl
  htake.trans (Arbiter.rest_settle ..)

theorem Arbiter.rest_raise_supervision (a : Arbiter) (cfg : ConfigSet) (now : Nat) :
    Arbiter.Rest { a with emergencyRaisers := { a.emergencyRaisers with supervision := true } }
      (Arbiter.settle cfg now (a.raise .supervision)) := Arbiter.rest_settle ..

/-- What an INTERVENE leaves of S4 (R14). -/
theorem Arbiter.Lawful.takeIntervene_s4 (ha : a.Lawful) (cfg : ConfigSet) (now : Nat) (effort : Word16) :
    (Arbiter.settle cfg now (a.takeIntervene effort)).entries.s4.posted = takenEffort effort
    ∧ (Arbiter.settle cfg now (a.takeIntervene effort)).entries.s4.inForce = takenEffort effort
    ∧ ((Arbiter.settle cfg now (a.takeIntervene effort)).nonIdle .s4 = true ↔ 0 < effort.toNat) := by
  have hlaw : (a.takeIntervene effort).Lawful := ha.takes (.takeIntervene effort)
  have hs := Arbiter.settle_settled hlaw cfg now
  have hwants : (a.takeIntervene effort).wants .s4 = decide (0 < takenEffort effort) := rfl
  have hempty : takenEffort effort = 0 →
      ((Arbiter.settle cfg now (a.takeIntervene effort)).entries.get .s4).posted = 0 := fun h0 =>
    hlaw.settle_empty (g := .s4) (by decide) h0 h0 (by rw [hwants, h0]; rfl) cfg now
  generalize Arbiter.settle cfg now (a.takeIntervene effort) = b at hs hempty ⊢
  refine ⟨?_, hs.idle .s4 (by decide) (by decide) (by decide) (by decide), ?_⟩
  · rcases Nat.eq_zero_or_pos (takenEffort effort) with h0 | hpos
    · exact (hempty h0).trans h0.symm
    · exact hs.posted .s4 (by decide) (by decide) (by decide) (by rw [hwants, decide_eq_true hpos])
  · rw [hs.nonIdle, hwants, decide_eq_true_eq, takenEffort, maxEffort]
    omega

/-- What a PENALTY leaves of S5 (R15). -/
theorem Arbiter.Lawful.takePenalty_s5 (ha : a.Lawful) (cfg : ConfigSet) (now : Nat) (effort : Word16) :
    (Arbiter.settle cfg now (a.takePenalty effort)).entries.s5.posted = takenEffort effort
    ∧ (Arbiter.settle cfg now (a.takePenalty effort)).entries.s5.inForce =
        (if a.nonIdle .s5 then max (a.inForce .s5) (takenEffort effort) else takenEffort effort)
    ∧ (Arbiter.settle cfg now (a.takePenalty effort)).nonIdle .s5 = true := by
  have hs := Arbiter.settle_settled (ha.takes (.takePenalty effort)) cfg now
  have hwants : (a.takePenalty effort).wants .s5 = true := rfl
  generalize Arbiter.settle cfg now (a.takePenalty effort) = b at hs ⊢
  exact ⟨hs.posted .s5 (by decide) (by decide) (by decide) hwants, hs.inForce .s5 (by decide) (by decide) (by decide) hwants,
    (hs.nonIdle .s5).trans hwants⟩

end

/-- A received frame leaves the efforts of S0 to S5 (R5). -/
theorem ArbiterInv.received_inForce (h : ArbiterInv s) (p : PortId) {g : Source} (hg : g ∉ [.s6, .s7, .s8]) :
    (s.received p).arbiter.inForce g = s.arbiter.inForce g := by
  simp only [List.mem_cons, List.not_mem_nil, or_false, not_or] at hg
  rcases s.received_arbiter_cases p with e | e <;> rw [e]
  exact ((Arbiter.follows_takeSupervisionFresh h.lawful h.conditioned s.cfg s.time).efforts g (by simpa using hg.2.1)
    hg.1 hg.2.1 hg.2.2).2

/-- One event of the arbiter at a frame is an event at the time, and with the live set, of its reception. -/
theorem State.received_event_follows {p : PortId} {f : Arbiter → Arbiter} {touched : List Source}
    (h : ∀ cfg now, Arbiter.Follows cfg now touched (s.received p).arbiter (Arbiter.settle cfg now (f (s.received p).arbiter))) :
    Arbiter.Follows s.store.live s.time touched (s.received p).arbiter ((s.received p).arbiterEvent f).arbiter := by
  rw [State.arbiterEvent_arbiter, State.received_cfg, State.received_time]
  exact h _ _

theorem clampMark_eq (effort : Word16) : clampMark effort = [if 6000 < effort.toNat then 1 else 0] := by
  unfold clampMark effortClamped maxEffort
  by_cases h : 6000 < effort.toNat <;> simp [h, bitFlag, byteOf]

theorem exec_intervene (h : s.ready .supervision) (effort : Word16) :
    exec (.intervene effort) s = .next ((s.received .supervision).actIntervene effort) :=
  powered_takeFrame h rfl rfl rfl

theorem exec_penalty (h : s.ready .supervision) (effort : Word16) :
    exec (.penalty effort) s = .next ((s.received .supervision).actPenalty effort) :=
  powered_takeFrame h rfl rfl rfl

/-- Settles O13: one event of the arbiter for each, and then its reply. -/
theorem interveneAndPenaltyTaken : Obligations.InterveneAndPenaltyTaken := by
  unfold Obligations.InterveneAndPenaltyTaken
  intro effort s h hinv
  have hr := hinv.received .supervision
  have hmark := clampMark_eq effort
  constructor
  · refine ⟨(s.received .supervision).arbiterEvent (.takeIntervene effort), _, exec_intervene h effort,
      State.arbiterEvent_reports _ _, ?_⟩
    have hf := State.received_event_follows fun cfg now =>
      Arbiter.follows_takeIntervene hr.lawful hr.conditioned cfg now effort
    have hs4 := hr.lawful.takeIntervene_s4 (s.received .supervision).cfg (s.received .supervision).time effort
    rw [← State.arbiterEvent_arbiter] at hs4
    obtain ⟨hposted, hforce, hnon⟩ := hs4
    refine ⟨hposted, hforce, hnon, hf, Arbiter.rest_takeIntervene .., ?_⟩
    rw [← hmark]
    exact State.reply_replied ..
  · refine ⟨(s.received .supervision).arbiterEvent (.takePenalty effort), _, exec_penalty h effort,
      State.arbiterEvent_reports _ _, ?_⟩
    have hf := State.received_event_follows fun cfg now =>
      Arbiter.follows_takePenalty hr.lawful hr.conditioned cfg now effort
    have hs5 := hr.lawful.takePenalty_s5 (s.received .supervision).cfg (s.received .supervision).time effort
    rw [← State.arbiterEvent_arbiter, hinv.received_nonIdle .supervision (by decide),
      hinv.received_inForce .supervision (by decide)] at hs5
    obtain ⟨hposted, hforce, hnon⟩ := hs5
    refine ⟨hposted, hforce, hnon, hf, Arbiter.rest_takePenalty .., ?_⟩
    rw [← hmark]
    exact State.reply_replied ..

/-! ### EMERGENCY and FREEZE (R17, R165) -/

theorem exec_emergency (h : s.ready .supervision) :
    exec .emergency s = .next (s.received .supervision).actEmergency :=
  powered_takeFrame h rfl rfl rfl

theorem exec_freeze (h : s.ready .supervision) (tag : Word16) :
    exec (.freeze tag) s = .next ((s.received .supervision).actFreeze tag) :=
  powered_takeFrame h rfl rfl rfl

/-- Settles O15: an EMERGENCY is one event of the arbiter, a FREEZE one delivery to the recorder. -/
theorem emergencyAndFreezeTaken : Obligations.EmergencyAndFreezeTaken := by
  unfold Obligations.EmergencyAndFreezeTaken
  intro tag s h
  refine ⟨fun hinv => ?_, ⟨_, exec_freeze h tag, State.reply_replied ..⟩⟩
  have hr := hinv.received .supervision
  refine ⟨(s.received .supervision).arbiterEvent (.raise .supervision), _, exec_emergency h,
    State.arbiterEvent_reports _ _, ?_, ?_, ?_, State.reply_replied ..⟩
  · rw [State.arbiterEvent_arbiter, (Arbiter.settle_settled (hr.lawful.takes (.raise .supervision)) _ _).nonIdle]
    simp [Arbiter.raise, Arbiter.wants, EmergencyRaisers.add, EmergencyRaisers.any]
  · exact State.received_event_follows fun cfg now => Arbiter.follows_emergencyRaisers hr.lawful hr.conditioned cfg now _
  · rw [State.arbiterEvent_arbiter, ← (hinv.received_standstill_raisers .supervision).2]
    exact Arbiter.rest_raise_supervision ..

end

end Sys2Proof.Machine

/-! SUPPORT. The service requests on the configuration, the match slots and the restart: the obligations O17, O22 and O23. -/

namespace Sys2Proof.Machine

section
variable {s : State}

/-! ### WRITE CONFIG and CONFIRM CONFIG (R182) -/

section
variable {live : ConfigSet} {standstill : Bool} {code : Byte} {value : Word32} {row : ParamRow}

theorem paramRow_some (h : paramRow code = some row) : row ∈ paramTable ∧ row.code = code.toNat :=
  ⟨List.mem_of_find?_eq_some h, by simpa using List.find?_some h⟩

theorem judgeWrite_range
    (h : ∀ row ∈ paramTable, row.code = code.toNat → value.toNat < row.lo ∨ row.hi < value.toNat) :
    judgeWrite live standstill code value = .error .range := by
  unfold judgeWrite
  split
  · rfl
  · rename_i row hrow
    obtain ⟨hmem, hcode⟩ := paramRow_some hrow
    exact if_pos (h row hmem hcode)

variable (hrow : row ∈ paramTable) (hcode : row.code = code.toNat) (hlo : row.lo ≤ value.toNat) (hhi : value.toNat ≤ row.hi)
include hrow hcode hlo hhi

/-- A code of the table with a value in its range goes by standstill and by the cross constraints (R182). -/
theorem judgeWrite_listed : judgeWrite live standstill code value =
    if !standstill then .error .notStandstill
    else if !(live.put row.param value.toNat).crossOk then .error .inconsistent
    else .ok (row.param, value.toNat) := by
  unfold judgeWrite
  rw [paramRow_of_listed hrow hcode]
  exact if_neg (by omega)

end

section
variable {code : Byte} {value : Word32} {r : Result} {w : Param × Nat}

theorem State.actWriteConfig_refused (h : judgeWrite s.cfg s.monitor.standstill code value = .error r) :
    s.Replied (s.actWriteConfig code value) .service (replyFrame kindWriteConfig r []) := by
  rw [State.actWriteConfig, h]
  exact State.reply_replied ..

theorem State.actWriteConfig_placed (h : judgeWrite s.cfg s.monitor.standstill code value = .ok w) :
    s.Placed (s.actWriteConfig code value) kindWriteConfig (.configStore (some w)) := by
  rw [State.actWriteConfig, h]
  exact State.placeService_placed _ trivial

end

theorem State.actConfirmConfig_refused (h : s.monitor.standstill = false) :
    s.Replied s.actConfirmConfig .service (replyFrame kindConfirmConfig .notStandstill []) := by
  rw [State.actConfirmConfig, h]
  exact State.reply_replied ..

theorem State.actConfirmConfig_placed (h : s.monitor.standstill = true) :
    s.Placed s.actConfirmConfig kindConfirmConfig (.configStore none) := by
  rw [State.actConfirmConfig, h]
  exact State.placeService_placed _ trivial

/-- Settles O17: by the rows of R182 over the set and the standstill that the reception leaves. -/
theorem configurationWritesJudged : Obligations.ConfigurationWritesJudged := by
  unfold Obligations.ConfigurationWritesJudged
  intro code value s h
  have hstill : (s.received .service).monitor.standstill = s.monitor.standstill := by rw [State.received_monitor]
  refine ⟨⟨(s.received .service).actWriteConfig code value, powered_takeFrame h rfl rfl rfl,
      fun hout => State.actWriteConfig_refused (judgeWrite_range hout),
      fun row hrow hcode hlo hhi => ⟨fun hmoving => ?_, fun hat hbad => ?_, fun hat hok => ?_⟩⟩,
    ⟨(s.received .service).actConfirmConfig, powered_takeFrame h rfl rfl rfl,
      fun hmoving => State.actConfirmConfig_refused (hstill.trans hmoving),
      fun hat => State.actConfirmConfig_placed (hstill.trans hat)⟩⟩
  · refine State.actWriteConfig_refused ?_
    rw [judgeWrite_listed hrow hcode hlo hhi, hstill, hmoving]
    rfl
  · refine State.actWriteConfig_refused ?_
    rw [judgeWrite_listed hrow hcode hlo hhi, hstill, hat, State.received_cfg, State.cfg, hbad]
    rfl
  · refine State.actWriteConfig_placed ?_
    rw [judgeWrite_listed hrow hcode hlo hhi, hstill, hat, State.received_cfg, State.cfg, hok]
    rfl

/-! ### SET MATCH (R122, R123) -/

section
variable {slot enabled condition axle : Byte} {threshold : Word16}

/-- The code of a match condition (section 8.10). -/
def MatchCondition.code : MatchCondition → Nat
  | .refAbove => 0 | .refBelow => 1 | .creepAbove => 2 | .pipeBelow => 3 | .deficitAbove => 4 | .authorityAtLeast => 5

theorem MatchCondition.ofCode_iff {c : MatchCondition} : MatchCondition.ofCode condition = some c ↔ condition.toNat = c.code := by
  unfold MatchCondition.ofCode
  simp only [← BitVec.toNat_inj, BitVec.ofNat_eq_ofNat, BitVec.toNat_ofNat, Nat.reducePow, Nat.reduceMod]
  cases c <;> simp only [MatchCondition.code]
  all_goals repeat' split
  all_goals simp <;> omega

theorem MatchCondition.code_iff_mem {c : MatchCondition} {n : Nat} :
    (n, c) ∈ [(0, .refAbove), (1, .refBelow), (2, .creepAbove), (3, .pipeBelow), (4, .deficitAbove),
      (5, MatchCondition.authorityAtLeast)] ↔ n = c.code := by
  cases c <;> simp [MatchCondition.code]

theorem axleOf_isNone : (axleOf axle).isNone = true ↔ axle.toNat < 1 ∨ 6 < axle.toNat := by
  have hall : (axleOf axle).isNone = true ↔ ∀ i : Axle, i.number ≠ axle.toNat := by
    simp [axleOf, Axle.mem_all]
  rw [hall]
  constructor
  · intro h
    have h1 := h .a1
    have h2 := h .a2
    have h3 := h .a3
    have h4 := h .a4
    have h5 := h .a5
    have h6 := h .a6
    simp only [Axle.number] at h1 h2 h3 h4 h5 h6
    omega
  · intro h i
    cases i <;> simp only [Axle.number] <;> omega

/-- What a SET MATCH within every range writes (R123). -/
theorem judgeMatch_iff {w : Fin 4 × MatchSlot} : judgeMatch slot enabled condition axle threshold = some w ↔
    enabled.toNat ≤ 1 ∧ slot.toNat = w.1.val ∧ ∃ c : MatchCondition, condition.toNat = c.code
      ∧ (c = .creepAbove → 1 ≤ axle.toNat ∧ axle.toNat ≤ 6) ∧ threshold.toNat ≤ c.top
      ∧ w.2 = ⟨decide (enabled.toNat = 1), c, axle, threshold.toNat, if enabled.toNat = 1 then .armed else .disarmed⟩ := by
  have hone : (enabled = 1) = (enabled.toNat = 1) := by rw [← BitVec.toNat_inj]; rfl
  obtain ⟨i, m⟩ := w
  unfold judgeMatch
  simp only [hone]
  constructor
  · intro h
    split at h
    · rename_i hslot
      split at h
      · cases h
      · rename_i hen
        split at h
        · cases h
        · rename_i c hc
          split at h
          · cases h
          · rename_i hax
            split at h
            · cases h
            · rename_i htop
              cases h
              refine ⟨by omega, rfl, c, MatchCondition.ofCode_iff.mp hc, fun hcreep => ?_, by omega, rfl⟩
              have := mt axleOf_isNone.mpr (not_and.mp hax hcreep)
              omega
    · cases h
  · rintro ⟨hen, hslot, c, hc, hax, htop, rfl⟩
    have hlt : slot.toNat < 4 := by rw [hslot]; exact i.isLt
    have hax' : ¬(c = .creepAbove ∧ (axleOf axle).isNone = true) := fun ⟨hcreep, hnone⟩ => by
      have h1 := axleOf_isNone.mp hnone
      have h2 := hax hcreep
      omega
    rw [dif_pos hlt, if_neg (by omega), MatchCondition.ofCode_iff.mpr hc]
    dsimp only
    rw [if_neg hax', if_neg (by omega)]
    exact congrArg some (Prod.ext (Fin.ext hslot) rfl)

theorem State.actSetMatch_range (h : ∀ w, judgeMatch slot enabled condition axle threshold ≠ some w) :
    s.Replied (s.actSetMatch slot enabled condition axle threshold) .service (replyFrame kindSetMatch .range []) := by
  unfold State.actSetMatch
  split
  · exact State.reply_replied ..
  · exact absurd ‹_› (h _)

theorem State.actSetMatch_ok {w : Fin 4 × MatchSlot} (h : judgeMatch slot enabled condition axle threshold = some w) :
    (s.withMatch w.1 w.2).Replied (s.actSetMatch slot enabled condition axle threshold) .service
      (replyFrame kindSetMatch .ok []) := by
  rw [State.actSetMatch, h]
  exact State.reply_replied ..

end

/-- Settles O22: a SET MATCH writes its slot exactly where every field is in its range. -/
theorem setMatchJudged : Obligations.SetMatchJudged := by
  unfold Obligations.SetMatchJudged
  intro slot enabled condition axle threshold s h
  refine ⟨(s.received .service).actSetMatch slot enabled condition axle threshold, powered_takeFrame h rfl rfl rfl,
    fun hout => State.actSetMatch_range fun w hw => ?_, fun i c hslot hen hcond hax htop => ?_⟩
  · obtain ⟨hen, hslot, c, hc, hax, htop, -⟩ := judgeMatch_iff.mp hw
    have hi := w.1.isLt
    cases c <;> simp only [MatchCondition.code, MatchCondition.top, reduceCtorEq, false_imp_iff, true_imp_iff] at hc hax htop <;>
      omega
  · have hok := State.actSetMatch_ok (s := s.received .service) (judgeMatch_iff (w := (i, _)).mpr
      ⟨hen, hslot, c, MatchCondition.code_iff_mem.mp hcond, hax, htop, rfl⟩)
    rwa [State.withMatch, State.received_recorder] at hok

/-! ### RESTART (R188) -/

/-- Settles O23: the OK reply that the request has just placed keeps the restart from taking effect (R189). -/
theorem restartRequestJudged : Obligations.RestartRequestJudged := by
  unfold Obligations.RestartRequestJudged
  intro s h
  refine ⟨(s.received .service).actRestart, powered_takeFrame h rfl rfl rfl, fun hmoving => ?_, fun hat => ?_⟩
  · rw [State.actRestart, State.received_monitor, hmoving]
    exact State.reply_replied ..
  · have howed : ((s.received .service).reply .service kindRestart .ok []).ports.restartOwed = true :=
      Ports.restartOwed_place_restartReply _
    rw [State.actRestart, State.received_monitor, if_pos hat, State.callRestart_of_owed howed]
    have hr : ((s.received .service).reply .service kindRestart .ok []).restart = s.restart := State.received_restart ..
    rw [hr]
    exact ⟨Ports.place_queued .., rfl⟩

end

end Sys2Proof.Machine

/-! SUPPORT. The service requests on the channels, READ CHANNEL, ASSIGN CHANNEL and DRIVE CHANNEL: the obligations O18 and O19. -/

namespace Sys2Proof.Machine

section
variable {s : State} {channel function state : Byte} {ch : Fin 22} {f : ChanFn}

/-! ### Channel numbers and function codes (R147, section 8.10) -/

theorem channelNumber_of_outside (h : 22 ≤ channel.toNat) : channelNumber channel = none := dif_neg (by omega)

theorem channelNumber_of_eq (h : channel.toNat = ch.val) : channelNumber channel = some ch := by
  have hlt : channel.toNat < 22 := by rw [h]; exact ch.isLt
  rw [channelNumber, dif_pos hlt]
  exact congrArg some (Fin.ext h)

theorem ChanFn.ofCode_of_eq (h : function.toNat = f.code) : ChanFn.ofCode function = some f := by
  rw [ChanFn.ofCode, h]
  cases f with
  | tach i => cases i <;> rfl
  | _ => rfl

theorem ChanFn.ofCode_of_outside (h : 19 ≤ function.toNat) : ChanFn.ofCode function = none := by
  have hcodes : ∀ p ∈ fnCodes, p.1 < 19 := by decide
  rw [ChanFn.ofCode, Option.map_eq_none_iff, List.find?_eq_none]
  intro p hp
  have := hcodes p hp
  simp only [decide_eq_true_eq]
  omega

theorem State.received_service_matrix : (s.received .service).matrix = s.matrix := rfl

/-! ### READ CHANNEL (R153, R154) -/

section
variable (m : Matrix)

theorem channelData_driver (d : Fin 8) : channelData m (driverChannel d) =
    [0, byteOf (m.table[driverChannel d]).code,
      byteOf (bitFlag (m.driven d) 7 + bitFlag m.marks[d] 6 + driverHealthCode m.health[d])] := by
  have h : driverOf (driverChannel d) = some d := dif_pos d.isLt
  simp only [channelData, h]

theorem channelData_pulse (p : Fin 8) : channelData m ⟨p.val + 8, by omega⟩ =
    [1, byteOf (m.table[(⟨p.val + 8, by omega⟩ : Fin 22)]).code, byteOf (m.pulses[p]).latest]
      ++ bytes16 (m.pulses[p]).total ++ [byteOf (bitFlag (!(m.pulses[p]).healthy) 0)] := by
  have hd : driverOf ⟨p.val + 8, by omega⟩ = none := dif_neg (by simp)
  have hp : pulseOf ⟨p.val + 8, by omega⟩ = some p := by simp [pulseOf]
  simp only [channelData, hd, hp]

theorem channelData_analog (a : Fin 6) : channelData m ⟨a.val + 16, by omega⟩ =
    [2, byteOf (m.table[(⟨a.val + 16, by omega⟩ : Fin 22)]).code] ++ two (convert m.loops[a]).value
      ++ [byteOf (bitFlag (!(convert m.loops[a]).healthy) 0)] := by
  have hd : driverOf ⟨a.val + 16, by omega⟩ = none := dif_neg (by simp)
  have hp : pulseOf ⟨a.val + 16, by omega⟩ = none := dif_neg (by simp)
  have ha : analogOf ⟨a.val + 16, by omega⟩ = some a := by simp [analogOf]
  simp only [channelData, hd, hp, ha]

end

theorem driverHealthCode_eq (h : DriverHealth) :
    driverHealthCode h = match h with | .ok => 0 | .openLoad => 1 | .shortLoad => 2 := by cases h <;> rfl

/-- The bytes of an analog channel after its kind and function (R153). -/
theorem convert_bytes (microamps : Nat) :
    two (convert microamps).value ++ [byteOf (bitFlag (!(convert microamps).healthy) 0)] =
      if 3600 ≤ microamps ∧ microamps ≤ 21000 then two (min ((microamps - 4000) * 1000 / 16000) 1000) ++ [0] else [0, 0, 1] := by
  rw [convert]
  split <;> rfl

/-- The data of a READ CHANNEL taken, empty with RANGE. -/
def State.channelAnswer (channel : Byte) (s : State) : Result × List Byte :=
  match channelNumber channel with
  | none => (.range, [])
  | some ch => (.ok, channelData s.matrix ch)

theorem State.actReadChannel_replied : s.Replied (s.actReadChannel channel) .service
    (replyFrame kindReadChannel (s.channelAnswer channel).1 (s.channelAnswer channel).2) := by
  rw [State.actReadChannel, State.channelAnswer]
  cases channelNumber channel <;> exact State.reply_replied ..

/-- Settles O18: the command's loop currents reach the matrix before the frame is taken, and its data go by the kind of the channel. -/
theorem readChannelAnswered : Obligations.ReadChannelAnswered := by
  unfold Obligations.ReadChannelAnswered
  intro channel loops s h
  have hready : (s.withLoops loops).ready .service := h
  have hmatrix : ((s.withLoops loops).received .service).matrix = { s.matrix with loops := loops } := by
    rw [State.received_service_matrix, State.withLoops]
  refine ⟨((s.withLoops loops).received .service).actReadChannel channel, _, _, ?_, State.actReadChannel_replied,
    fun hout => ?_, fun d hd => ?_, fun p hp => ?_, fun a ha => ?_⟩
  · rw [show exec (.readChannel channel loops) s = powered (.readChannel channel loops) s from rfl, powered_on h.1]
    exact congrArg _ (hready.takeFrame rfl rfl rfl)
  · rw [State.channelAnswer, channelNumber_of_outside hout]
    exact ⟨rfl, rfl⟩
  · rw [State.channelAnswer, channelNumber_of_eq (ch := driverChannel d) hd, hmatrix]
    refine ⟨rfl, (channelData_driver _ d).trans ?_⟩
    rw [driverHealthCode_eq]
    rfl
  · rw [State.channelAnswer, channelNumber_of_eq (ch := ⟨p.val + 8, by omega⟩) hp, hmatrix]
    refine ⟨rfl, (channelData_pulse _ p).trans ?_⟩
    cases (s.matrix.pulses[p]).healthy <;> rfl
  · rw [State.channelAnswer, channelNumber_of_eq (ch := ⟨a.val + 16, by omega⟩) ha, hmatrix]
    exact ⟨rfl, (channelData_analog _ a).trans ((List.append_assoc ..).trans (congrArg _ (convert_bytes _)))⟩

/-! ### ASSIGN CHANNEL (R156) -/

section
variable {t : ChannelTable} {standstill : Bool}

theorem judgeAssign_range (h : 22 ≤ channel.toNat ∨ 19 ≤ function.toNat) :
    judgeAssign t standstill channel function = .atOnce .range := by
  rcases h with h | h
  · rw [judgeAssign, channelNumber_of_outside h]
  · rw [judgeAssign, ChanFn.ofCode_of_outside h]
    cases channelNumber channel <;> rfl

theorem judgeAssign_listed (hch : channel.toNat = ch.val) (hf : function.toNat = f.code) :
    judgeAssign t standstill channel function =
      if !standstill then .atOnce .notStandstill
      else if !f.allowedOn (chanKind ch) then .atOnce .kindMismatch
      else if (t[ch]).required && t[ch] ≠ f then .atOnce .required
      else if t[ch] = f then .atOnce .ok
      else .store ch f := by
  rw [judgeAssign, channelNumber_of_eq hch, ChanFn.ofCode_of_eq hf]

end

theorem State.actAssignChannel_replied {r : Result}
    (h : judgeAssign s.matrix.table s.monitor.standstill channel function = .atOnce r) :
    s.Replied (s.actAssignChannel channel function) .service (replyFrame kindAssignChannel r []) := by
  rw [State.actAssignChannel, h]
  exact State.reply_replied ..

theorem State.actAssignChannel_placed
    (h : judgeAssign s.matrix.table s.monitor.standstill channel function = .store ch f) :
    s.Placed (s.actAssignChannel channel function) kindAssignChannel (.assignStore ch f) := by
  rw [State.actAssignChannel, h]
  exact State.placeService_placed _ trivial

/-! ### DRIVE CHANNEL (R155) -/

section
variable {t : ChannelTable}

theorem judgeDrive_range (h : 22 ≤ channel.toNat ∨ 1 < state.toNat) : judgeDrive t channel state = (.range, none) := by
  unfold judgeDrive
  split
  · rfl
  · rename_i ch hch
    have hlt : channel.toNat < 22 := Nat.lt_of_not_le fun hge => by
      rw [channelNumber_of_outside (by omega)] at hch
      cases hch
    exact if_pos (by omega)

theorem judgeDrive_input (hlo : 8 ≤ channel.toNat) (hhi : channel.toNat < 22) (hstate : state.toNat ≤ 1) :
    judgeDrive t channel state = (.kindMismatch, none) := by
  have hnone : driverOf ⟨channel.toNat, hhi⟩ = none := dif_neg (Nat.not_lt.mpr hlo)
  rw [judgeDrive, channelNumber_of_eq (ch := ⟨channel.toNat, hhi⟩) rfl]
  dsimp only
  rw [if_neg (by omega), hnone]

theorem judgeDrive_driver {d : Fin 8} (hd : channel.toNat = d.val) (hstate : state.toNat ≤ 1) :
    judgeDrive t channel state =
      if (t[driverChannel d]).owned then (.owned, none)
      else if t[driverChannel d] = .generalOut then (.ok, some d)
      else (.kindMismatch, none) := by
  have hsome : driverOf (driverChannel d) = some d := dif_pos d.isLt
  rw [judgeDrive, channelNumber_of_eq (ch := driverChannel d) hd]
  dsimp only
  rw [if_neg (by omega), hsome]

end

theorem State.actDriveChannel_refused {r : Result} (h : judgeDrive s.matrix.table channel state = (r, none)) :
    s.Replied (s.actDriveChannel channel state) .service (replyFrame kindDriveChannel r []) := by
  rw [State.actDriveChannel, h]
  exact State.reply_replied ..

theorem State.actDriveChannel_driven {d : Fin 8} (h : judgeDrive s.matrix.table channel state = (.ok, some d)) :
    s.actDriveChannel channel state = (s.withGeneral d (state = 1)).reply .service kindDriveChannel .ok [] := by
  rw [State.actDriveChannel, h]

theorem Matrix.driven_set_general {m : Matrix} {d : Fin 8} {on : Bool} (h : m.table[driverChannel d] = .generalOut) :
    Matrix.driven { m with generalOut := m.generalOut.set d on } d = on := by
  rw [Matrix.driven, h]
  exact (getElem_set_fin ..).trans (if_pos rfl)

/-- Settles O19: both requests go by their rows over the table and the standstill that the reception leaves. -/
theorem channelRequestsJudged : Obligations.ChannelRequestsJudged := by
  unfold Obligations.ChannelRequestsJudged
  refine ⟨fun channel function s h => ⟨(s.received .service).actAssignChannel channel function,
      powered_takeFrame h rfl rfl rfl, fun hout => State.actAssignChannel_replied (judgeAssign_range hout), fun ch f hch hf => ?_⟩,
    fun channel state s h => ⟨(s.received .service).actDriveChannel channel state,
      powered_takeFrame h rfl rfl rfl, fun hout => State.actDriveChannel_refused (judgeDrive_range hout),
      fun hlo hhi hst => State.actDriveChannel_refused (judgeDrive_input hlo hhi hst), fun d hd hst => ?_⟩⟩
  · have hjudge := judgeAssign_listed (t := s.matrix.table) (standstill := s.monitor.standstill) hch hf
    refine ⟨fun hmoving => State.actAssignChannel_replied (hjudge.trans ?_),
      fun hat hkind => State.actAssignChannel_replied (hjudge.trans ?_),
      fun hat hkind hreq hne => State.actAssignChannel_replied (hjudge.trans ?_),
      fun hat hkind heq => State.actAssignChannel_replied (hjudge.trans ?_),
      fun hat hkind hreq hne => State.actAssignChannel_placed (hjudge.trans ?_)⟩
    · simp [-Fin.getElem_fin, hmoving]
    · simp [-Fin.getElem_fin, hat, hkind]
    · simp [-Fin.getElem_fin, hat, hkind, hreq, hne]
    · simp [-Fin.getElem_fin, hat, hkind, heq]
    · simp [-Fin.getElem_fin, hat, hkind, hreq, hne]
  · have hjudge := judgeDrive_driver (t := s.matrix.table) hd hst
    refine ⟨fun howned => State.actDriveChannel_refused (hjudge.trans ?_),
      fun hfree hne => State.actDriveChannel_refused (hjudge.trans ?_), fun hgeneral => ?_⟩
    · exact if_pos howned
    · rw [if_neg (by simp [-Fin.getElem_fin, hfree]), if_neg hne]
    · have hon : (state = 1) = (state.toNat = 1) := by rw [← BitVec.toNat_inj]; rfl
      rw [State.actDriveChannel_driven (s := s.received .service) (d := d) (hjudge.trans (by rw [hgeneral]; rfl)), State.withGeneral,
        State.received_service_matrix]
      simp only [hon]
      exact ⟨State.reply_replied .., Matrix.driven_set_general hgeneral⟩

end

end Sys2Proof.Machine

/-! SUPPORT. LIST INCIDENTS and READ INCIDENT: the obligation O20. -/

namespace Sys2Proof.Machine

section
variable {s : State}

/-! ### LIST INCIDENTS (R136) -/

/-- The six bytes of a slot in the answer to a LIST INCIDENTS (section 8.9). -/
def DirEntry.listed (e : DirEntry) : List Byte :=
  byteOf (bitFlag e.lock 7 + e.state.code) :: four e.sequence ++ [byteOf e.kind]

theorem listData_eq (r : Recorder) : listData r =
    (allSlots.flatMap fun i => (r.directory[i]).listed) ++ ([byteOf (lockedCount r.directory)] ++ four r.nextSequence) :=
  List.append_assoc ..

/-- The bytes behind the first `k` pieces of one length. -/
theorem drop_flatMap_append {α : Type} (w : Nat) (piece : α → List Byte) (rest : List Byte) (hw : ∀ x, (piece x).length = w) :
    ∀ (k : Nat) (l : List α), k ≤ l.length →
      (l.flatMap piece ++ rest).drop (w * k) = (l.drop k).flatMap piece ++ rest
  | 0, l, _ => rfl
  | k + 1, [], h => absurd h (by simp)
  | k + 1, x :: l, h => by
    rw [List.flatMap_cons, List.append_assoc, Nat.mul_succ, Nat.add_comm, ← List.drop_drop, ← hw x, List.drop_left, hw x]
    exact drop_flatMap_append w piece rest hw k l (by simpa using h)

theorem numberAt_add {bs : List Byte} {p q n : Nat} : numberAt bs (p + q) n = numberAt (bs.drop p) q n := by
  rw [numberAt, numberAt, List.drop_drop]

theorem DirEntry.length_listed (e : DirEntry) : e.listed.length = 6 := by simp [DirEntry.listed, length_four]

theorem allSlots_drop (i : Fin 12) : allSlots.drop i.val = i :: allSlots.drop (i.val + 1) := by revert i; decide

/-- A place of the six bytes of a slot in the answer. -/
theorem listData_slot (r : Recorder) (i : Fin 12) : ∃ rest, ∀ q n,
    numberAt (listData r) (6 * i.val + q) n = numberAt ((r.directory[i]).listed ++ rest) q n := by
  refine ⟨((allSlots.drop (i.val + 1)).flatMap fun j => (r.directory[j]).listed) ++ ([byteOf (lockedCount r.directory)] ++ four r.nextSequence),
    fun q n => ?_⟩
  rw [listData_eq, numberAt_add, drop_flatMap_append 6 _ _ (fun j => DirEntry.length_listed _) i.val allSlots
    (Nat.le_of_lt i.isLt), allSlots_drop, List.flatMap_cons, List.append_assoc]

/-- A place behind the bytes of the twelve slots. -/
theorem listData_behind (r : Recorder) (q n : Nat) :
    numberAt (listData r) (72 + q) n = numberAt (byteOf (lockedCount r.directory) :: four r.nextSequence) q n := by
  rw [listData_eq, numberAt_add, show 72 = 6 * allSlots.length from rfl,
    drop_flatMap_append 6 _ _ (fun j => DirEntry.length_listed _) allSlots.length allSlots (Nat.le_refl _),
    List.drop_length]
  rfl

theorem lockedCount_le (d : Vector DirEntry 12) : lockedCount d ≤ 12 := List.length_filter_le ..

theorem listedStatus_mod (lock : Bool) (st : SlotState) :
    (bitFlag lock 7 + st.code) % 256 = (if lock then 128 else 0) + st.code := by
  cases lock <;> cases st <;> rfl

theorem length_listData (r : Recorder) : (listData r).length = 77 := by
  simp [listData, allSlots, length_four]

/-- The places of section 8.9 in the answer to a LIST INCIDENTS. -/
theorem listData_places (r : Recorder) : (listData r).length = 77
    ∧ (∀ i : Fin 12,
      numberAt (listData r) (6 * i.val) 1 = (if (r.directory[i]).lock then 128 else 0) + (r.directory[i]).state.code
      ∧ numberAt (listData r) (6 * i.val + 1) 4 = (r.directory[i]).sequence % 4294967296
      ∧ numberAt (listData r) (6 * i.val + 5) 1 = (r.directory[i]).kind % 256)
    ∧ numberAt (listData r) 72 1 = lockedCount r.directory
    ∧ numberAt (listData r) 73 4 = r.nextSequence % 4294967296 := by
  refine ⟨length_listData r, fun i => ?_, ?_, ?_⟩
  · obtain ⟨rest, hplace⟩ := listData_slot r i
    refine ⟨(hplace 0 1).trans ?_, (hplace 1 4).trans ?_, (hplace 5 1).trans ?_⟩
    · rw [← listedStatus_mod]
      exact numberAt_cons_zero
    · simp [DirEntry.listed, numberAt_cons, numberAt_four_zero]
    · simp [DirEntry.listed, numberAt_cons, numberAt_four, numberAt_cons_zero]
  · exact (listData_behind r 0 1).trans (numberAt_cons_zero.trans (Nat.mod_eq_of_lt (Nat.lt_of_le_of_lt (lockedCount_le _) (by decide))))
  · exact (listData_behind r 1 4).trans (numberOf_four_mod _)

/-! ### READ INCIDENT (R137) -/

section
variable {e : DirEntry} {n : NvSlot}

theorem readHeader_status (e : DirEntry) (n : NvSlot) :
    ∃ rest, readHeader e n = byteOf e.state.code :: byteOf (bitFlag e.lock 0) :: rest := by
  cases h : e.state <;> simp [readHeader, h]

theorem readHeader_places_status (slot part : Byte) (e : DirEntry) (n : NvSlot) :
    numberAt (slot :: part :: readHeader e n) 2 1 = e.state.code
      ∧ numberAt (slot :: part :: readHeader e n) 3 1 = if e.lock then 1 else 0 := by
  obtain ⟨rest, hrest⟩ := readHeader_status e n
  rw [hrest]
  refine ⟨(numberOf_byteOf e.state.code).trans ?_, (numberOf_byteOf (bitFlag e.lock 0)).trans ?_⟩
  · cases e.state <;> rfl
  · cases e.lock <;> rfl

theorem readPart_empty {part : Nat} (h : e.state = .empty) : readPart e n part = [] := by
  simp only [readPart, h]

theorem readPart_held {part : Nat} (h : e.state ≠ .empty) : readPart e n part =
    (n.body.drop (sampleLength * (4 * (part - 1)))).take (sampleLength * min 4 (n.samples - 4 * (part - 1))) := by
  cases hs : e.state with
  | empty => exact absurd hs h
  | _ => simp only [readPart, hs]

theorem readHeader_empty (h : e.state = .empty) : readHeader e n =
    [byteOf e.state.code, byteOf (bitFlag e.lock 0)] ++ four e.sequence ++ [byteOf e.kind] ++ (n.header.drop 7).take 12
    ++ List.replicate 31 0 ++ (n.header.drop 50).take 2 ++ [0] ++ (n.header.drop 53).take 1 ++ [0]
    ++ (n.header.drop 55).take 3 := by
  simp only [readHeader, h]

theorem readHeader_held (h : e.state ≠ .empty) : readHeader e n =
    [byteOf e.state.code, byteOf (bitFlag e.lock 0)] ++ (n.header.drop 2).take 50
    ++ [byteOf (min (n.field 52 1) 50)] ++ (n.header.drop 53).take 1
    ++ [byteOf (min (n.field 54 1) 100)] ++ (n.header.drop 55).take 3 := by
  cases hs : e.state with
  | empty => exact absurd hs h
  | _ => simp only [readHeader, hs]

section
variable (hlen : n.header.length = 58)
include hlen

theorem header_crc_whole : (n.header.drop 55).take 3 = n.header.drop 55 :=
  List.take_of_length_le (by simp [hlen])

/-- The bytes of a stored header that part 0 shows of every slot (R137). -/
theorem readHeader_kept : (readHeader e n).length = 58
    ∧ ((readHeader e n).drop 7).take 12 = (n.header.drop 7).take 12
    ∧ ((readHeader e n).drop 50).take 2 = (n.header.drop 50).take 2
    ∧ numberAt (readHeader e n) 53 1 = numberAt n.header 53 1
    ∧ (readHeader e n).drop 55 = n.header.drop 55 := by
  have hnumber : ∀ k, (four k).drop 51 = [] ∧ (four k).drop 53 = [] := fun _ => ⟨rfl, rfl⟩
  by_cases h : e.state = .empty
  · rw [readHeader_empty h]
    simp [List.drop_append, List.take_append, length_four, hlen, numberAt, List.drop_take, hnumber, header_crc_whole hlen]
  · rw [readHeader_held h]
    simp [List.drop_append, List.take_append, hlen, numberAt, List.drop_take, List.take_take, header_crc_whole hlen]

/-- What part 0 shows of an EMPTY slot in place of its stored header (R137). -/
theorem readHeader_empty_places (h : e.state = .empty) : numberAt (readHeader e n) 2 4 = e.sequence % 4294967296
    ∧ numberAt (readHeader e n) 6 1 = e.kind % 256
    ∧ ((readHeader e n).drop 19).take 31 = List.replicate 31 0
    ∧ numberAt (readHeader e n) 52 1 = 0 ∧ numberAt (readHeader e n) 54 1 = 0 := by
  have hnumber : ∀ k, (four k).drop 17 = [] ∧ (four k).drop 50 = [] ∧ (four k).drop 52 = [] := fun _ => ⟨rfl, rfl, rfl⟩
  rw [readHeader_empty h]
  refine ⟨?_, ?_, ?_, ?_, ?_⟩
  · simp [numberAt_cons, numberAt_four_zero]
  · simp [numberAt_cons, numberAt_four, numberAt_cons_zero]
  · simp [List.drop_append, List.take_append, length_four, hlen, hnumber]
  · simp [numberAt, List.drop_append, List.drop_take, length_four, hlen, hnumber, numberOf]
  · simp [numberAt, List.drop_append, List.drop_take, length_four, hlen, hnumber, numberOf]

/-- What part 0 shows of a slot that holds an incident: the stored header, its sample counts limited (R137). -/
theorem readHeader_held_places (h : e.state ≠ .empty) : ((readHeader e n).drop 2).take 50 = (n.header.drop 2).take 50
    ∧ numberAt (readHeader e n) 52 1 = min (numberAt n.header 52 1) 50
    ∧ numberAt (readHeader e n) 54 1 = min (numberAt n.header 54 1) 100 := by
  rw [readHeader_held h]
  refine ⟨?_, ?_, ?_⟩
  · simp [List.drop_append, hlen]
  · have hlimit : min (n.field 52 1) 50 % 256 = min (n.field 52 1) 50 := Nat.mod_eq_of_lt (by omega)
    simp [numberAt, List.take_append, hlen, numberOf_byteOf, hlimit]
    rfl
  · have hlimit : min (n.field 54 1) 100 % 256 = min (n.field 54 1) 100 := Nat.mod_eq_of_lt (by omega)
    simp [numberAt, List.drop_append, List.drop_take, hlen, numberOf_byteOf, hlimit]
    rfl

end

end

/-! ### The rows of a READ INCIDENT (R137) -/

section
variable {r : Recorder} {slots : Vector NvSlot 12} {slot part : Byte} {expected : Word32} {i : Fin 12}

theorem erasedMeanwhile_iff {e : DirEntry} {shown : Nat} : erasedMeanwhile e shown expected part = true ↔
    e.state = .empty ∧ shown = e.sequence ∧ expected.toNat ≠ 0 ∧ part.toNat ≠ 0 := by
  have hpart : (part = 0) = (part.toNat = 0) := by rw [← BitVec.toNat_inj]; rfl
  have hexpected : (expected = 0) = (expected.toNat = 0) := by rw [← BitVec.toNat_inj]; rfl
  simp only [erasedMeanwhile, Bool.and_eq_true, decide_eq_true_eq, ne_eq, hpart, hexpected, and_assoc]

theorem readIncident_range (h : 12 ≤ slot.toNat) : Sys2Proof.Machine.readIncident r slots slot expected part = (.range, []) := by
  rw [Sys2Proof.Machine.readIncident, slotNumber_of_outside h]

theorem readIncident_listed (h : slot.toNat = i.val) : Sys2Proof.Machine.readIncident r slots slot expected part =
    if (r.directory[i]).state = .sealing then (.busy, [])
    else if expected ≠ 0 ∧ expected.toNat ≠ (r.directory[i]).sequence then (.changed, [])
    else if erasedMeanwhile r.directory[i] r.shown[i] expected part then (.changed, [])
    else
      (.ok, slot :: part :: (if part = 0 then readHeader r.directory[i] slots[i]
        else readPart r.directory[i] slots[i] part.toNat)) := by
  rw [Sys2Proof.Machine.readIncident, slotNumber_of_eq h]

theorem Recorder.afterRead_of_ne {result : Result} (h : result ≠ .ok) : r.afterRead slot part result = r := by
  unfold Recorder.afterRead
  split
  · rfl
  · exact if_neg fun hok => h hok.2

theorem Recorder.afterRead_ok (h : slot.toNat = i.val) : r.afterRead slot part .ok =
    { r with shown := if part.toNat ≠ 0 then r.shown else r.shown.set i (r.directory[i]).incident } := by
  have hzero : part = 0 ↔ part.toNat = 0 := by rw [← BitVec.toNat_inj]; rfl
  rw [Recorder.afterRead, slotNumber_of_eq h]
  dsimp only
  by_cases hp : part.toNat = 0
  · rw [if_pos ⟨hzero.mpr hp, rfl⟩, if_neg (not_not_intro hp)]
  · rw [if_neg fun hand => hp (hzero.mp hand.1), if_pos hp]

end

section
variable {slot part : Byte} {expected : Word32}

theorem State.actReadIncident_refused {result : Result} (hne : result ≠ .ok)
    (h : Sys2Proof.Machine.readIncident s.recorder s.array.slots slot expected part = (result, [])) :
    s.Replied (s.actReadIncident slot expected part) .service (replyFrame kindReadIncident result []) := by
  rw [State.actReadIncident, h]
  dsimp only
  rw [Recorder.afterRead_of_ne hne]
  exact State.reply_replied ..

theorem State.actReadIncident_ok {i : Fin 12} {data : List Byte} (hslot : slot.toNat = i.val)
    (h : Sys2Proof.Machine.readIncident s.recorder s.array.slots slot expected part = (.ok, data)) :
    State.Replied
      { s with
        recorder := { s.recorder with
          shown := if part.toNat ≠ 0 then s.recorder.shown
            else s.recorder.shown.set i (s.recorder.directory[i]).incident } }
      (s.actReadIncident slot expected part) .service (replyFrame kindReadIncident .ok data) := by
  rw [State.actReadIncident, h]
  dsimp only
  rw [Recorder.afterRead_ok hslot]
  exact State.reply_replied ..

end

/-- The rows of R137 over the reasons why a request is answered OK. -/
theorem readIncident_ok {r : Recorder} {slots : Vector NvSlot 12} {slot part : Byte} {expected : Word32} {i : Fin 12}
    (hslot : slot.toNat = i.val) (hseal : (r.directory[i]).state ≠ .sealing)
    (hnumber : expected.toNat = 0 ∨ expected.toNat = (r.directory[i]).sequence
      ∧ (part.toNat = 0 ∨ (r.directory[i]).state ≠ .empty ∨ r.shown[i] ≠ (r.directory[i]).sequence)) :
    Sys2Proof.Machine.readIncident r slots slot expected part =
      (.ok, slot :: part :: (if part.toNat = 0 then readHeader r.directory[i] slots[i]
        else readPart r.directory[i] slots[i] part.toNat)) := by
  have hpart : (part = 0) = (part.toNat = 0) := by rw [← BitVec.toNat_inj]; rfl
  have hexpected : (expected = 0) = (expected.toNat = 0) := by rw [← BitVec.toNat_inj]; rfl
  have hmeanwhile : erasedMeanwhile r.directory[i] r.shown[i] expected part ≠ true := by
    rw [ne_eq, erasedMeanwhile_iff]
    rintro ⟨hempty, hshown, hexp, hp⟩
    rcases hnumber with h | ⟨-, h | h | h⟩
    · exact hexp h
    · exact hp h
    · exact h hempty
    · exact h hshown
  rw [readIncident_listed hslot, if_neg hseal, if_neg, if_neg hmeanwhile]
  · simp only [hpart]
  · simp only [hexpected, ne_eq]
    rintro ⟨hexp, hseq⟩
    exact hnumber.elim hexp fun h => hseq h.1

/-- Settles O20: the bytes of the list, and the rows of a READ INCIDENT with the places of its data. -/
theorem incidentsListedAndRead : Obligations.IncidentsListedAndRead := by
  unfold Obligations.IncidentsListedAndRead
  refine ⟨fun s h => ⟨(s.received .service).actListIncidents, _, powered_takeFrame h rfl rfl rfl, State.reply_replied ..,
      listData_places _⟩,
    fun slot expected part s h => ⟨(s.received .service).actReadIncident slot expected part, powered_takeFrame h rfl rfl rfl,
      fun hout => State.actReadIncident_refused (by decide) (readIncident_range hout),
      fun i hi => ⟨fun hseal => ?_, fun hseal hzero hne => ?_, fun hempty hzero hp heq hshown => ?_, fun hseal hnumber => ?_⟩⟩⟩
  · exact State.actReadIncident_refused (by decide) ((readIncident_listed hi).trans (if_pos hseal))
  · refine State.actReadIncident_refused (by decide) ((readIncident_listed hi).trans ?_)
    rw [State.received_recorder, if_neg hseal, if_pos ⟨fun h0 => hzero (by rw [h0]; rfl), hne⟩]
  · refine State.actReadIncident_refused (by decide) ((readIncident_listed hi).trans ?_)
    rw [State.received_recorder, if_neg (by rw [hempty]; decide), if_neg (fun hand => hand.2 heq),
      if_pos (erasedMeanwhile_iff.mpr ⟨hempty, hshown, hzero, hp⟩)]
  · refine ⟨_, State.actReadIncident_ok (s := s.received .service) hi (readIncident_ok hi hseal hnumber), rfl, fun hp => ?_,
      fun hp hlen => ?_, fun hp hempty => ?_, fun hp hheld => ?_⟩
    · rw [if_pos hp, State.received_recorder]
      exact readHeader_places_status slot part _ _
    · rw [if_pos hp, State.received_recorder]
      obtain ⟨hlength, hfields, hcount, hpre, hcrc⟩ := readHeader_kept (e := s.recorder.directory[i]) hlen
      exact ⟨congrArg (· + 2) hlength, hfields, hcount, hpre, hcrc, readHeader_empty_places hlen, readHeader_held_places hlen⟩
    · rw [if_neg hp, State.received_recorder, readPart_empty hempty]
    · rw [if_neg hp, State.received_recorder, readPart_held hheld]
      rfl

end

end Sys2Proof.Machine

/-! SUPPORT. The completions of the operations of the non-volatile array: the obligations O24, O25, O26, O27 and O28. -/

namespace Sys2Proof.Machine

section
variable {s t : State} {r : Result} {data : List Byte}

/-! ### What follows a completion (R186, R189) -/

theorem State.concludeReset_store (s : State) : s.concludeReset.store = s.store := by
  unfold State.concludeReset
  dsimp only
  rw [State.nvTurn_store]
  split <;> rfl

theorem State.concludeReset_array (s : State) : s.concludeReset.array = s.array := by
  unfold State.concludeReset
  dsimp only
  rw [State.nvTurn_array]
  split <;> rfl

theorem State.concludeReset_table (s : State) : s.concludeReset.matrix.table = s.matrix.table := by
  unfold State.concludeReset
  dsimp only
  rw [State.nvTurn_matrix]
  split <;> rfl

section
variable {cause : ResetCause}

theorem State.warmRestart_store : (s.warmRestart cause).store = s.store := State.concludeReset_store _

theorem State.warmRestart_array : (s.warmRestart cause).array = s.array := State.concludeReset_array _

theorem State.warmRestart_table : (s.warmRestart cause).matrix.table = s.matrix.table := by
  rw [State.warmRestart, State.concludeReset_table, Matrix.afterWarm]

end

/-- Neither a grant nor a warm restart writes the array, the live set or the table (R186, R190). -/
theorem State.afterCompletion_stored (s : State) : s.afterCompletion.store = s.store ∧ s.afterCompletion.array = s.array
    ∧ s.afterCompletion.matrix.table = s.matrix.table := by
  have hturn : s.landed.nvTurn.store = s.store ∧ s.landed.nvTurn.array = s.array ∧ s.landed.nvTurn.matrix.table = s.matrix.table := by
    rw [State.nvTurn_store, State.nvTurn_array, State.nvTurn_matrix]
    exact ⟨rfl, rfl, rfl⟩
  rw [State.afterCompletion_eq]
  rcases State.restartIfDue_cases s.landed.nvTurn with h | ⟨cause, -, -, -, h⟩ <;> rw [h]
  · exact hturn
  · rwa [State.warmRestart_store, State.warmRestart_array, State.warmRestart_table]

theorem State.restartIfDue_of_none (h : s.restart = none) : s.restartIfDue = s := by
  rw [State.restartIfDue, h]

theorem State.afterCompletion_of_none (h : s.restart = none) : s.afterCompletion = s.landed.nvTurn := by
  rw [State.afterCompletion_eq, State.restartIfDue_of_none]
  rw [State.nvTurn_restart]
  exact h

theorem State.nothingWaits.nvTurn (h : s.nothingWaits) : s.nvTurn = s := by
  obtain ⟨-, hseal, hservice, hnone⟩ := h
  rw [State.nvTurn, State.placeSeal_of_none_awaiting hnone]
  have hgrant : s.grant = s := by
    rw [State.grant, hseal, hservice]
    split <;> rfl
  rw [hgrant, State.placeSeal_of_none_awaiting hnone]

/-- With nothing waiting the array is free after a completion, and nothing more happens. -/
theorem State.nothingWaits.afterCompletion (h : s.nothingWaits) : s.afterCompletion = { s with nv := .empty } := by
  have hl : s.landed.nothingWaits := h
  obtain ⟨hrestart, hseal, hservice, -⟩ := h
  rw [State.afterCompletion_of_none hrestart, hl.nvTurn, State.landed]
  dsimp only
  rw [hseal, hservice]
  rfl

theorem State.nothingWaits.of_same (h : s.nothingWaits) (hrestart : t.restart = s.restart) (hnv : t.nv = s.nv)
    (hbuffers : t.recorder.buffers = s.recorder.buffers) : t.nothingWaits := by
  rwa [State.nothingWaits, hrestart, hnv, hbuffers]

/-! ### The deferred reply (R167) -/

theorem State.deferredReply_of_none (h : s.ports.outstanding = none) : s.deferredReply r data = s := by
  rw [State.deferredReply, h]

theorem State.deferredReply_of_some {kind : Byte} (h : s.ports.outstanding = some kind) : s.deferredReply r data =
    { s with ports := { s.ports.place .service (replyFrame kind r data) with outstanding := none } } := by
  rw [State.deferredReply, h]

theorem State.deferredReply_answered (r : Result) (data : List Byte) (s : State) :
    s.ports.Answered (s.deferredReply r data).ports r data := by
  refine ⟨fun h => by rw [State.deferredReply_of_none h], fun kind h => ?_⟩
  rw [State.deferredReply_of_some h]
  obtain ⟨hline, hasm, hothers, horder, hrest⟩ := Ports.place_queued s.ports .service (replyFrame kind r data)
  exact ⟨hline, hasm, hothers, horder, by rw [hrest]⟩

theorem State.deferredReply_rest (r : Result) (data : List Byte) (s : State) :
    s.deferredReply r data = { s with ports := (s.deferredReply r data).ports } := by
  rcases State.deferredReply_cases r data s with ⟨-, h⟩ | ⟨k, -, h⟩ <;> rw [h]

theorem State.grantedNothing_ports_of_unowed (s : State) (h : s.ports.outstanding = none) (r : Result) :
    (s.grantedNothing r).ports = s.ports := by
  have hu : State.ports { s with nv := { s.nv with serviceWait := none } } = s.ports := rfl
  rw [State.grantedNothing, State.deferredReply_of_none (hu ▸ h)]

/-- Where no reply is owed, a turn of the controller leaves the ports alone. -/
theorem State.nvTurn_ports_of_unowed (h : s.ports.outstanding = none) : s.nvTurn.ports = s.ports := by
  have hg : ∀ u : State, u.ports.outstanding = none → u.grant.ports = u.ports := by
    intro u hu
    rcases State.grant_cases (s := u) with he | ⟨-, -, ⟨b, -, he⟩ | ⟨op, -, -, he⟩⟩
    · rw [he]
    · rw [he, State.grantSeal_ports]
    · rw [he]
      rcases State.grantService_cases (s := u) op with ⟨-, hop⟩ | ⟨r, hop⟩ <;> rw [hop]
      exact u.grantedNothing_ports_of_unowed hu r
  rw [State.nvTurn, State.placeSeal_ports, hg _ (by rwa [State.placeSeal_ports]), State.placeSeal_ports]

/-- Where no restart is pending, the reply that a completion owes stands last in the service port's line (R167). -/
theorem State.afterCompletion_answers {kind : Byte} (h : s.restart = none) (ho : s.ports.outstanding = some kind) :
    (s.deferredReply r data).afterCompletion.ports.line .service = s.ports.line .service ++ [replyFrame kind r data]
    ∧ (s.deferredReply r data).afterCompletion.ports.outstanding = none := by
  have hout : (s.deferredReply r data).landed.ports.outstanding = none := s.deferredReply_outstanding r data
  rw [State.afterCompletion_of_none (by rwa [State.deferredReply_restart]), State.nvTurn_ports_of_unowed hout]
  exact ⟨(((s.deferredReply_answered r data).2 kind ho).line), hout⟩

/-- With nothing waiting, a completion that answers leaves the array free and the ports answered. -/
theorem State.nothingWaits.answered (h : s.nothingWaits) :
    (s.deferredReply r data).afterCompletion = { s with nv := .empty, ports := (s.deferredReply r data).ports } := by
  have hn : (s.deferredReply r data).nothingWaits :=
    h.of_same (State.deferredReply_restart ..) (State.deferredReply_nv ..)
      (congrArg Recorder.buffers (State.deferredReply_recorder ..))
  rw [hn.afterCompletion]
  generalize hp : (s.deferredReply r data).ports = ps
  rw [State.deferredReply_rest, hp]

theorem State.afterCompletion_reply_array (r : Result) (data : List Byte) (s : State) :
    (s.deferredReply r data).afterCompletion.array = s.array := by
  rw [(State.afterCompletion_stored _).2.1, State.deferredReply_array]

/-! ### Locks (R139, R140) -/

/-- Settles O26: both writes set one lock flag in header and directory, then reply and free the array. -/
theorem lockWritesComplete : Obligations.LockWritesComplete := by
  unfold Obligations.LockWritesComplete
  intro slot n h lock c op data s hpow hcase hop
  have hexec : exec c s = .next ((s.withLock slot lock).deferredReply .ok data).afterCompletion := by
    rcases hcase with hcase | hcase
    · cases hcase
      rw [show exec .lockWriteComplete s = powered .lockWriteComplete s from rfl, powered_on hpow, State.lockWriteComplete, hop]
    · cases hcase
      rw [show exec .unlockWriteComplete s = powered .unlockWriteComplete s from rfl, powered_on hpow, State.unlockWriteComplete,
        hop]
  have harray := State.afterCompletion_reply_array .ok data (s.withLock slot lock)
  refine ⟨_, hexec, ?_, fun hrestart kind ho => State.afterCompletion_answers (s := s.withLock slot lock) hrestart ho,
    fun hn => ?_⟩
  · rw [harray]
    cases lock <;> rfl
  · have hu : (s.withLock slot lock).nothingWaits := hn.of_same rfl rfl rfl
    rw [harray, hu.answered]
    exact ⟨State.deferredReply_answered .ok data (s.withLock slot lock), rfl⟩

/-! ### Erases (R142) -/

/-- The header write of an erase, of a slot whose header is stored. -/
theorem erasedHeader_emptied {draw : Nat} {old : NvSlot} {body : List Byte} (h : old.header.length = 58) :
    old.Emptied ⟨erasedHeader draw old.header, body⟩ where
  length := length_erasedHeader h
  state := erasedHeader_field_zero ..
  lock := rfl
  sequence := by simp [erasedHeader, numberAt, List.take_append, List.take_take, h]
  kind := by simp [erasedHeader, numberAt, List.drop_append, List.drop_take, h]

/-- What an erase leaves of the part (R142). -/
theorem State.erased_eq (slot : Fin 12) (headed : Bool) (s : State) : ∃ body draws,
    s.erased slot headed = { s with
      draws := draws
      array := { s.array with
        slots := s.array.slots.set slot ⟨if headed then (s.array.slots[slot]).header
          else erasedHeader s.draws (s.array.slots[slot]).header, body⟩ }
      recorder := { s.recorder with
        directory := if headed then s.recorder.directory else s.recorder.directory.set slot
          ⟨.empty, false, (s.recorder.directory[slot]).sequence, (s.recorder.directory[slot]).kind⟩ } } := by
  cases headed with
  | true => exact ⟨_, _, rfl⟩
  | false =>
    refine ⟨clearedBody (s.draws + 1) (s.array.slots[slot]).body.length (s.array.slots[slot]).body, s.draws + 2, ?_⟩
    have hold : ∀ x : NvSlot, (s.array.slots.set slot x)[slot] = x := fun x => (getElem_set_fin ..).trans (if_pos rfl)
    simp only [State.erased, State.bodyCleared, State.emptied, State.writeSlot, State.withEntry, NvArray.withSlot,
      Recorder.withEntry, Bool.false_eq_true, if_false, hold, Vector.set_set]

theorem State.emptied_eq (slot : Fin 12) (s : State) : s.emptied slot = { s with
    draws := s.draws + 1
    array := { s.array with
      slots := s.array.slots.set slot ⟨erasedHeader s.draws (s.array.slots[slot]).header, (s.array.slots[slot]).body⟩ }
    recorder := { s.recorder with
      directory := s.recorder.directory.set slot
        ⟨.empty, false, (s.recorder.directory[slot]).sequence, (s.recorder.directory[slot]).kind⟩ } } := by
  simp only [State.emptied, State.writeSlot, State.withEntry, NvArray.withSlot, Recorder.withEntry]

theorem exec_eraseHeaderWritten {slot : Fin 12} {n : Nat} (h : s.powered = true)
    (hop : s.nv.inFlight = some (.service (.erase slot n) false)) :
    exec .eraseHeaderWritten s = .next { s.emptied slot with
      nv := { s.nv with inFlight := some (.service (.erase slot n) true) } } := by
  rw [show exec .eraseHeaderWritten s = powered .eraseHeaderWritten s from rfl, powered_on h, State.eraseHeaderWritten, hop]
  rfl

theorem exec_eraseComplete {slot : Fin 12} {n : Nat} {headed : Bool} (h : s.powered = true)
    (hop : s.nv.inFlight = some (.service (.erase slot n) headed)) :
    exec .eraseComplete s = .next ((s.erased slot headed).deferredReply .ok []).afterCompletion := by
  rw [show exec .eraseComplete s = powered .eraseComplete s from rfl, powered_on h, State.eraseComplete, hop]
  rfl

/-- Settles O27: both reports write the header in one way, and the completion clears the body beside it. -/
theorem eraseCompletes : Obligations.EraseCompletes := by
  unfold Obligations.EraseCompletes
  intro slot n s hpow hlen
  have hwritten : ∀ x : NvSlot, (s.array.slots.set slot x)[slot] = x := fun x => (getElem_set_fin ..).trans (if_pos rfl)
  refine ⟨fun hop => ⟨_, exec_eraseHeaderWritten hpow hop, ?_⟩, fun headed hop => ⟨_, exec_eraseComplete hpow hop, ?_⟩⟩
  · rw [State.emptied_eq]
    simp only [hwritten]
    exact ⟨erasedHeader_emptied hlen, trivial, trivial⟩
  · have harray := State.afterCompletion_reply_array .ok [] (s.erased slot headed)
    have hanswer := fun hrestart kind ho => State.afterCompletion_answers (r := .ok) (data := []) (kind := kind)
      (s := s.erased slot headed) hrestart ho
    have hdone := fun h => State.nothingWaits.answered (s := s.erased slot headed) (r := .ok) (data := []) h
    have hports := State.deferredReply_answered .ok [] (s.erased slot headed)
    obtain ⟨body, draws, he⟩ := s.erased_eq slot headed
    rw [he] at harray hanswer hdone hports ⊢
    rw [harray]
    simp only [hwritten]
    refine ⟨hanswer, fun hh => ?_, fun hh => ?_, fun hn => ?_⟩
    · rw [if_pos hh]
    · rw [hh]
      exact erasedHeader_emptied hlen
    · rw [hdone (hn.of_same rfl rfl rfl)]
      exact ⟨hports, rfl⟩

/-! ### Seals (R131, R132) -/

theorem awaitingBy_none {better : Nat → Nat → Bool} {bs : Vector Buffer 2} :
    awaitingBy better bs = none ↔ ∀ b : Fin 2, (bs[b]).state ≠ .awaitingSeal := by
  have hall : (∀ b : Fin 2, (bs[b]).state ≠ .awaitingSeal) ↔ (bs[0]).state ≠ .awaitingSeal ∧ (bs[1]).state ≠ .awaitingSeal :=
    Fin.forall_fin_two
  rw [hall, awaitingBy]
  split
  · split <;> simp_all
  · simp_all
  · simp_all
  · simp_all

theorem oldestAwaiting_set_free {bs : Vector Buffer 2} (b : Fin 2) (h : oldestAwaiting bs = none) :
    oldestAwaiting (bs.set b .free) = none := by
  rw [oldestAwaiting, awaitingBy_none] at h ⊢
  intro c
  rw [getElem_set_fin]
  split
  · simp [Buffer.free]
  · exact h c

/-- The part once a seal's slot, its entry and its buffer are written (R132). -/
def State.sealWritten (b : Fin 2) (slot : Fin 12) (autoLock : Bool) (s : State) : State :=
  ((s.writeSlot slot (sealedSlot s.recorder.buffers[b] .sealed autoLock)).withEntry slot
    ⟨.sealed, autoLock, (s.recorder.buffers[b]).sequence, (s.recorder.buffers[b]).firstKind⟩).withBuffer b .free

/-- Settles O28: the completion writes slot, entry and buffer and frees the array, and the first report writes slot and entry. -/
theorem sealCompletes : Obligations.SealCompletes := by
  unfold Obligations.SealCompletes
  intro b slot autoLock written s hpow hop
  refine ⟨⟨(s.sealWritten b slot autoLock).afterCompletion, ?_, (State.afterCompletion_stored _).2.1, fun hn => ?_⟩,
    fun hauto hwritten => ?_⟩
  · rw [show exec .sealComplete s = powered .sealComplete s from rfl, powered_on hpow, State.sealComplete, hop]
    rfl
  · obtain ⟨hrestart, hseal, hservice, hnone⟩ := hn
    have hu : (s.sealWritten b slot autoLock).nothingWaits := ⟨hrestart, hseal, hservice, oldestAwaiting_set_free b hnone⟩
    rw [hu.afterCompletion]
    rfl
  · rw [show exec .sealedStateWritten s = powered .sealedState s from rfl, powered_on hpow, State.sealedState, hop, hauto,
      hwritten]
    rfl

/-! ### Assignments (R157) -/

theorem alignMark_eq (owned mark : Bool) (h : DriverHealth) : alignMark owned mark h =
    (owned && (mark || !(decide (h = .ok))), owned && !mark && decide (h ≠ .ok)) := by
  cases owned <;> cases mark <;> cases h <;> rfl

theorem Matrix.alignMarks_ownedOutput (m : Matrix) (d : Fin 8) : m.alignMarks.ownedOutput d = m.ownedOutput d := rfl

theorem Matrix.alignMarks_marks (m : Matrix) (d : Fin 8) : m.alignMarks.marks[d] =
    (m.alignMarks.ownedOutput d && (m.marks[d] || !(decide (m.health[d] = .ok)))) := by
  have hget : m.alignMarks.marks[d] = (alignMark (m.ownedOutput d) m.marks[d] m.health[d]).1 := Vector.getElem_ofFn ..
  rw [hget, alignMark_eq, Matrix.alignMarks_ownedOutput]

theorem filterMap_if {α β : Type} (p : α → Bool) (g : α → β) (l : List α) :
    (l.filterMap fun x => if p x then some (g x) else none) = (l.filter p).map g := by
  induction l with
  | nil => rfl
  | cons x l ih => cases h : p x <;> simp [h, ih]

theorem Matrix.alignTriggers_eq (m : Matrix) : m.alignTriggers =
    (allDrivers.filter fun d => m.alignMarks.ownedOutput d && !m.marks[d] && decide (m.health[d] ≠ .ok)).map
      fun d => Instr.triggerArrival (.valveFault d) := by
  rw [Matrix.alignTriggers, ← filterMap_if]
  simp only [alignMark_eq, Matrix.alignMarks_ownedOutput]
  rfl

section
variable (ch : Fin 22) (f : ChanFn) (s : State)

theorem Matrix.assign_marks (m : Matrix) : (m.assign ch f).marks = m.marks := by unfold Matrix.assign; rfl

theorem Matrix.assign_health (m : Matrix) : (m.assign ch f).health = m.health := by unfold Matrix.assign; rfl

theorem State.assigned_matrix : (s.assigned ch f).matrix = (s.matrix.assign ch f).alignMarks := by
  unfold State.assigned State.deliver; rfl

theorem State.assigned_deliveries : (s.assigned ch f).deliveries = s.deliveries ++
    (([0, 1, 2, 3, 4, 5, 6, 7] : List (Fin 8)).filter fun d =>
      (s.assigned ch f).matrix.ownedOutput d && !s.matrix.marks[d] && decide (s.matrix.health[d] ≠ .ok)).map
      fun d => Instr.triggerArrival (.valveFault d) := by
  have htriggers := (s.matrix.assign ch f).alignTriggers_eq
  rw [Matrix.assign_marks, Matrix.assign_health, ← State.assigned_matrix] at htriggers
  have hdel : (s.assigned ch f).deliveries = s.deliveries ++ (s.matrix.assign ch f).alignTriggers := by
    unfold State.assigned State.deliver; rfl
  rw [hdel, htriggers]
  rfl

theorem State.assigned_marks (d : Fin 8) : (s.assigned ch f).matrix.marks[d] =
    ((s.assigned ch f).matrix.ownedOutput d && (s.matrix.marks[d] || !(decide (s.matrix.health[d] = .ok)))) := by
  have hmarks := (s.matrix.assign ch f).alignMarks_marks d
  rwa [Matrix.assign_marks, Matrix.assign_health, ← State.assigned_matrix] at hmarks

theorem State.assigned_generalOut (d : Fin 8) : (s.assigned ch f).matrix.generalOut[d] =
    if driverChannel d = ch ∧ (s.matrix.table[ch] = .generalOut ∨ f = .generalOut) then false else s.matrix.generalOut[d] := by
  have hgeneral : (s.assigned ch f).matrix.generalOut = assignGeneral s.matrix.generalOut s.matrix.table ch f := by
    rw [State.assigned_matrix]
    unfold Matrix.alignMarks Matrix.assign
    rfl
  rw [hgeneral]
  exact Vector.getElem_ofFn ..

/-- What an assignment leaves untouched (R157). -/
theorem State.assigned_rest : s.assigned ch f = { s with
    store := (s.assigned ch f).store, deliveries := (s.assigned ch f).deliveries
    matrix := { s.matrix with
      table := (s.assigned ch f).matrix.table
      generalOut := (s.assigned ch f).matrix.generalOut
      marks := (s.assigned ch f).matrix.marks } } := by
  simp only [State.assigned, State.deliver, Matrix.alignMarks, Matrix.assign]

end

/-- Settles O25: the assignment writes table, outputs and marks and delivers the faults it raises, then the image and the reply follow. -/
theorem assignmentStoreCompletes : Obligations.AssignmentStoreCompletes := by
  unfold Obligations.AssignmentStoreCompletes
  intro ch f h s hpow hop
  have hexec : exec .assignmentStoreComplete s = .next (((s.assigned ch f).writeImage).deferredReply .ok []).afterCompletion := by
    rw [show exec .assignmentStoreComplete s = powered .assignmentStoreComplete s from rfl, powered_on hpow,
      State.assignmentStoreComplete, hop]
  obtain ⟨hstore, harray, htable⟩ := State.afterCompletion_stored ((s.assigned ch f).writeImage.deferredReply .ok [])
  rw [State.deferredReply_store] at hstore
  rw [State.deferredReply_array] at harray
  rw [State.deferredReply_matrix] at htable
  have htable' : ((s.assigned ch f).writeImage.deferredReply .ok []).afterCompletion.matrix.table =
    assignTable s.matrix.table ch f := htable
  refine ⟨_, hexec, ?_, fun c hc => ?_, hstore, ?_,
    fun hrestart kind ho => State.afterCompletion_answers (s := (s.assigned ch f).writeImage) hrestart ho, fun hn => ?_⟩
  · rw [htable', assignTable_get, if_pos rfl]
  · rw [htable', assignTable_get, if_neg hc]
    simp
  · rw [harray, htable']
    rfl
  · have hu : (s.assigned ch f).writeImage.nothingWaits := hn.of_same rfl rfl rfl
    have hports := State.deferredReply_answered .ok [] (s.assigned ch f).writeImage
    rw [hu.answered]
    generalize ((s.assigned ch f).writeImage.deferredReply .ok []).ports = ps at hports ⊢
    refine ⟨fun d => ?_, fun d => ?_, ?_, hports, ?_⟩
    · exact s.assigned_generalOut ch f d
    · exact s.assigned_marks ch f d
    · exact s.assigned_deliveries ch f
    · rw [State.writeImage, State.assigned_rest]

/-! ### Configuration stores (R182) -/

section
variable {a : Arbiter}

/-- The evaluation of R26 writes one condition alone. -/
theorem Arbiter.evaluateRestraint_eq (a : Arbiter) :
    a.evaluateRestraint = { a with restraintRaised := a.restraintRaised && !a.restraintMet } := by
  rw [Arbiter.evaluateRestraint]
  cases h : a.restraintMet with
  | true => rw [Bool.not_true, Bool.and_false]; rfl
  | false => rw [Bool.not_false, Bool.and_true]; rfl

/-- What the arbiter takes of a store that completes: a change to VALID (R2, R180). -/
def Arbiter.takeStored (defaulted : Bool) (a : Arbiter) : Arbiter :=
  { a with
    configValid := a.configValid || defaulted
    restraintRaised := a.restraintRaised && !(defaulted && Arbiter.restraintMet { a with configValid := true }) }

theorem Arbiter.takeStored_eq (defaulted : Bool) (a : Arbiter) :
    (if defaulted then .takeConfigValid else id) a = a.takeStored defaulted := by
  cases defaulted with
  | true =>
    rw [Arbiter.takeStored, if_pos rfl, Bool.or_true, Bool.true_and]
    exact Arbiter.evaluateRestraint_eq _
  | false => simp [Arbiter.takeStored]

theorem Arbiter.follows_takeStored (ha : a.Lawful) (hc : a.Conditioned) (cfg : ConfigSet) (now : Nat) (defaulted : Bool) :
    Arbiter.Follows cfg now [.s7] a (Arbiter.settle cfg now (a.takeStored defaulted)) := by
  refine Arbiter.follows_of_conditions ha hc cfg now _ rfl rfl rfl fun g hg => ?_
  cases g with
  | s7 => simp at hg
  | _ => rfl

end

section
variable (w : Option (Param × Nat)) (s : State)

/-- The part once a store is written and the timer that it may concern is measured anew (R18, R170, R182). -/
def State.storeMeasured : State :=
  match w with
  | none => s.storeWritten w
  | some pv => (s.storeWritten w).remeasured pv.1

theorem State.storeWritten_store : (s.storeWritten w).store = ⟨writtenSet s.store.live w, .valid, s.store.sequence + 1⟩ := rfl

theorem State.storeWritten_arbiter : (s.storeWritten w).arbiter =
    Arbiter.settle (writtenSet s.store.live w) s.time (s.arbiter.takeStored (s.store.state = .defaulted)) := by
  rw [← Arbiter.takeStored_eq, State.storeWritten, State.arbiterEvent_arbiter]
  simp only [State.cfg, decide_eq_true_eq]

theorem State.storeWritten_reports :
    ArbiterReports { s with store := (s.storeWritten w).store } (s.storeWritten w) :=
  State.arbiterEvent_reports _ _

/-- What measuring a timer anew leaves untouched. -/
theorem State.remeasured_rest (p : Param) : s.remeasured p = { s with
    arbiter := (s.remeasured p).arbiter, deliveries := (s.remeasured p).deliveries, matrix := (s.remeasured p).matrix
    ports := { s.ports with link := (s.remeasured p).ports.link } }
    ∧ (s.remeasured p).matrix.table = s.matrix.table := by
  have hlost : ∀ m, s.loseLink m = { s with
      arbiter := (s.loseLink m).arbiter, deliveries := (s.loseLink m).deliveries, matrix := (s.loseLink m).matrix
      ports := { s.ports with link := (s.loseLink m).ports.link } }
      ∧ (s.loseLink m).matrix.table = s.matrix.table := by
    intro m
    cases m with
    | cab => exact ⟨rfl, rfl⟩
    | supervision => exact ⟨rfl, rfl⟩
    | traction =>
      unfold State.loseLink
      dsimp only
      split <;> exact ⟨rfl, rfl⟩
  unfold State.remeasured
  split
  · exact ⟨rfl, rfl⟩
  iterate 3
    split
    · exact hlost _
    · exact ⟨rfl, rfl⟩
  · exact ⟨rfl, rfl⟩

theorem State.storeMeasured_rest : s.storeMeasured w = { s with
    store := (s.storeWritten w).store
    arbiter := (s.storeMeasured w).arbiter, deliveries := (s.storeMeasured w).deliveries
    matrix := (s.storeMeasured w).matrix, ports := { s.ports with link := (s.storeMeasured w).ports.link } }
    ∧ (s.storeMeasured w).matrix.table = s.matrix.table := by
  cases w with
  | none => exact ⟨rfl, rfl⟩
  | some pv =>
    obtain ⟨hrest, htable⟩ := State.remeasured_rest (s.storeWritten (some pv)) pv.1
    exact ⟨hrest, htable⟩

end

section
variable {w : Option (Param × Nat)}

/-- A written hold is measured as its expiry measures it (R18). -/
theorem exec_holdExpiry_storeWritten (h : s.powered = true) (hw : ∃ hold, w = some (.emergencyHoldMs, hold)) :
    exec .emergencyHoldExpiry (s.storeWritten w) = .next (s.storeMeasured w) := by
  obtain ⟨hold, rfl⟩ := hw
  exact powered_on (s := s.storeWritten _) h

/-- A written timeout is measured as its expiry measures it (R170). -/
theorem exec_freshnessExpiry_storeWritten {m : Master} (h : s.powered = true)
    (hw : ∃ timeout, w = some (timeoutParam m, timeout)) :
    exec (.freshnessExpiry m) (s.storeWritten w) = .next (s.storeMeasured w) := by
  obtain ⟨timeout, rfl⟩ := hw
  refine (powered_on (s := s.storeWritten _) h).trans (congrArg Host.Outcome.next ?_)
  cases m <;> rfl

/-- No timer runs on any other parameter. -/
theorem State.storeMeasured_of_untimed (hhold : ∀ hold, w ≠ some (.emergencyHoldMs, hold))
    (htimeout : ∀ m timeout, w ≠ some (timeoutParam m, timeout)) : s.storeMeasured w = s.storeWritten w := by
  cases w with
  | none => rfl
  | some pv =>
    obtain ⟨p, value⟩ := pv
    cases p with
    | emergencyHoldMs => exact absurd rfl (hhold value)
    | cabTimeout => exact absurd rfl (htimeout .cab value)
    | tractionTimeout => exact absurd rfl (htimeout .traction value)
    | supervisionTimeout => exact absurd rfl (htimeout .supervision value)
    | _ => rfl

end

/-! ### A restart that waited for the array (R189, R190) -/

section
variable (s : State)

/-- A reset up to the arbiter's event: the drivers' health is taken, S7 is raised and perhaps LINE (R29, R30, R158). -/
def State.resetRaised : State :=
  State.arbiterEvent .takeReset { s.deliver s.matrix.alignTriggers with matrix := s.matrix.alignMarks }

/-- A reset up to the ledger's copy of the record (R33). -/
def State.resetCopied : State := { s.resetRaised with ledger := .afterReset s.resetRaised.arbiter.record }

/-- A reset up to the emergency notice (R33), before the recorder places its seal again. -/
def State.resetNoticed : State :=
  if s.resetCopied.arbiter.nonIdle .s8 then
    State.emergencyOrder { s.resetCopied with deliveries := s.resetCopied.deliveries.erase .emergencyNotice }
  else s.resetCopied

theorem State.concludeReset_eq : s.concludeReset = s.resetNoticed.nvTurn := rfl

theorem State.concludeReset_restart : s.concludeReset.restart = s.restart := by
  rw [State.concludeReset_eq, State.nvTurn_restart, State.resetNoticed]
  split <;> rfl

theorem State.concludeReset_lastReset : s.concludeReset.lastReset = s.lastReset := by
  rw [State.concludeReset_eq, State.nvTurn_lastReset, State.resetNoticed]
  split <;> rfl

theorem State.resetNoticed_ports : s.resetNoticed.ports = s.ports ∨ ∃ o, s.resetNoticed.ports = s.ports.handOrder o := by
  rw [State.resetNoticed]
  split
  · exact .inr ⟨_, rfl⟩
  · exact .inl rfl

end

/-- A reset that leaves no reply owed hands the traction port one order at most. -/
theorem State.concludeReset_ports (h : s.ports.outstanding = none) :
    s.concludeReset.ports = s.ports ∨ ∃ o, s.concludeReset.ports = s.ports.handOrder o := by
  have hout : s.resetNoticed.ports.outstanding = none := by
    rcases s.resetNoticed_ports with he | ⟨o, he⟩ <;> rw [he]
    · exact h
    · rw [Ports.handOrder_rest]
      exact h
  rw [State.concludeReset_eq, State.nvTurn_ports_of_unowed hout]
  exact s.resetNoticed_ports

section
variable (cause : ResetCause) (s : State)

theorem State.warmRestart_restart : (s.warmRestart cause).restart = none := State.concludeReset_restart _

theorem State.warmRestart_lastReset : (s.warmRestart cause).lastReset = cause := State.concludeReset_lastReset _

theorem State.warmRestart_service : (s.warmRestart cause).ports.port.service = .afterReset
    ∧ (s.warmRestart cause).ports.outstanding = none := by
  unfold State.warmRestart
  rcases State.concludeReset_ports (s := { s with
      deliveries := s.deliveries.filter isTriggerDelivery
      timers := .started s.time
      arbiter := .cleared s.emergencyLine (s.store.state = .valid)
      loops := ⟨.afterReset, .afterReset⟩
      watch := .afterReset
      monitor := .afterReset (tachChannels s.matrix.table) s.monitor.accumulator s.monitor.distance
      slide := .afterReset s.cfg
      recorder := s.recorder.afterWarm cause
      matrix := s.matrix.afterWarm
      ports := .afterReset
      nv := .empty
      restart := none
      lastReset := cause }) rfl with h | ⟨o, h⟩ <;> rw [h]
  · exact ⟨rfl, rfl⟩
  · rw [Ports.handOrder_rest]
    exact ⟨rfl, rfl⟩

end

theorem State.restartIfDue_of_due {cause : ResetCause} (h : s.restart = some cause) (hfree : s.nv.inFlight = none)
    (howed : s.ports.restartOwed = false) : s.restartIfDue = s.warmRestart cause := by
  rw [State.restartIfDue, h]
  simp [hfree, howed]

/-- A restart that waited for the array takes effect at the completion (R189). -/
theorem State.afterCompletion_restarts {cause : ResetCause} (h : s.restart = some cause) (howed : s.ports.restartOwed = false) :
    s.afterCompletion = s.landed.nvTurn.warmRestart cause := by
  have hturn := State.nvTurn_of_busy (s := s.landed) (.inl (by rw [State.landed, h]; rfl))
  have hfree : s.landed.nvTurn.nv.inFlight = none := by rw [hturn]; rfl
  have hports : s.landed.nvTurn.ports = s.ports := by rw [hturn]; rfl
  rw [State.afterCompletion_eq]
  exact State.restartIfDue_of_due ((State.nvTurn_restart ..).trans h) hfree (by rw [hports, howed])

/-- The deferred reply of another kind than RESTART owes no restart. -/
theorem State.deferredReply_not_owed (howed : s.ports.restartOwed = false) (hkind : s.ports.outstanding ≠ some kindRestart) :
    (s.deferredReply r data).ports.restartOwed = false := by
  rcases State.deferredReply_cases r data s with ⟨-, he⟩ | ⟨k, hk, -⟩
  · rwa [he]
  · have hline := ((s.deferredReply_answered r data).2 k hk).line
    rw [← Bool.not_eq_true, Ports.restartOwed_iff] at howed ⊢
    rw [hline, List.mem_append, List.mem_singleton]
    rintro (hin | heq)
    · exact howed hin
    · rw [restartReply, replyFrame, replyFrame, Frame.mk.injEq, List.cons.injEq] at heq
      obtain ⟨-, hcode, -⟩ := heq
      exact hkind (hcode ▸ hk)

theorem exec_configurationStoreComplete {w : Option (Param × Nat)} {x : Bool} (h : s.powered = true)
    (hop : s.nv.inFlight = some (.service (.configStore w) x)) :
    exec .configurationStoreComplete s = .next ((s.storeMeasured w).writeImage.deferredReply .ok []).afterCompletion := by
  rw [show exec .configurationStoreComplete s = powered .configurationStoreComplete s from rfl, powered_on h,
    State.configurationStoreComplete, hop]
  rfl

/-- Settles O24: the store is written, the timer that it concerns measured, the image stored and the reply placed, and then the array is free. -/
theorem configurationStoreCompletes : Obligations.ConfigurationStoreCompletes := by
  unfold Obligations.ConfigurationStoreCompletes
  intro w x s hpow hop
  obtain ⟨hrest, htable⟩ := s.storeMeasured_rest w
  obtain ⟨hstore, harray, htab⟩ := State.afterCompletion_stored ((s.storeMeasured w).writeImage.deferredReply .ok [])
  rw [State.deferredReply_store] at hstore
  rw [State.deferredReply_array] at harray
  rw [State.deferredReply_matrix] at htab
  have hkept : (s.storeMeasured w).store = (s.storeWritten w).store := by rw [hrest]
  have hslots : (s.storeMeasured w).array = s.array := by rw [hrest]
  have hpend : (s.storeMeasured w).restart = s.restart := by rw [hrest]
  have hnv : (s.storeMeasured w).nv = s.nv := by rw [hrest]
  have hrec : (s.storeMeasured w).recorder = s.recorder := by rw [hrest]
  have hline : (s.storeMeasured w).ports.line .service = s.ports.line .service := by rw [hrest]; rfl
  have hout : (s.storeMeasured w).ports.outstanding = s.ports.outstanding := by rw [hrest]
  refine ⟨s.storeWritten w, s.storeMeasured w, _, exec_configurationStoreComplete hpow hop, ?_, s.storeWritten_reports w, ?_,
    fun hold hw => exec_holdExpiry_storeWritten hpow ⟨hold, hw⟩,
    fun m timeout hw => exec_freshnessExpiry_storeWritten hpow ⟨timeout, hw⟩, State.storeMeasured_of_untimed,
    ?_, ?_, ?_, ?_, ?_, ?_⟩
  · rw [State.storeWritten_store]
    cases w <;> rfl
  · intro hi
    rw [State.storeWritten_store, State.storeWritten_arbiter]
    exact ⟨Arbiter.follows_takeStored hi.lawful hi.conditioned .., Arbiter.rest_settle ..⟩
  · rw [hstore]
    exact hkept
  · rw [htab]
    exact htable
  · rw [harray, hstore, ← hslots, ← htable]
    have hvalid : (s.storeMeasured w).store.state = .valid := by rw [hkept]; rfl
    rw [State.writeImage, hvalid]
  · intro hrestart kind ho
    rw [← hpend] at hrestart
    rw [← hout] at ho
    rw [← hline]
    exact State.afterCompletion_answers (s := (s.storeMeasured w).writeImage) hrestart ho
  · intro hn
    have hv : (s.storeMeasured w).writeImage.nothingWaits := hn.of_same hpend hnv (by rw [State.writeImage, hrec])
    have hports := State.deferredReply_answered .ok [] (s.storeMeasured w).writeImage
    rw [hv.answered]
    exact ⟨rfl, fun ho => hports.1 (hout.trans ho), fun kind ho => hports.2 kind (hout.trans ho)⟩
  · intro cause hrestart howed hkind
    rw [← hpend] at hrestart
    have howed' : (s.storeMeasured w).writeImage.ports.restartOwed = false := by
      rwa [← Bool.not_eq_true, Ports.restartOwed_iff, State.writeImage, hline, ← Ports.restartOwed_iff, Bool.not_eq_true]
    have hkind' : (s.storeMeasured w).writeImage.ports.outstanding ≠ some kindRestart := by rwa [State.writeImage, hout]
    rw [State.afterCompletion_restarts ((State.deferredReply_restart (s := (s.storeMeasured w).writeImage) ..).trans hrestart)
      (State.deferredReply_not_owed howed' hkind')]
    exact ⟨State.warmRestart_restart .., State.warmRestart_lastReset .., State.warmRestart_service ..⟩

end

end Sys2Proof.Machine

/-! SUPPORT. The grant of a SEAL, the characters of a line and the end of a transmission: the obligations O29, O30 and O31. -/

namespace Sys2Proof.Machine

section
variable {s : State}

/-! ### The grant of a SEAL (R131) -/

section
variable {d : Vector DirEntry 12} {i j : Fin 12}

theorem find?_allSlots_le {p : Fin 12 → Bool} (h : allSlots.find? p = some i) (hj : p j = true) : i.val ≤ j.val := by
  obtain ⟨-, before, after, hsplit, hbefore⟩ := List.find?_eq_some_iff_append.mp h
  have hsorted : allSlots.Pairwise fun a b => a.val < b.val := by decide
  have hmem := mem_allSlots j
  rw [hsplit] at hsorted hmem
  rcases List.mem_append.mp hmem with hb | hb
  · have := hbefore j hb
    rw [hj] at this
    cases this
  · rcases List.mem_cons.mp hb with rfl | hb
    · exact Nat.le_refl _
    · exact Nat.le_of_lt (List.rel_of_pairwise_cons (List.pairwise_append.mp hsorted).2.1 hb)

/-- The three rules of R131 in their order. -/
theorem chooseSlot_rules (h : chooseSlot d = some i) :
    ((d[i]).state = .empty ∧ ∀ j : Fin 12, (d[j]).state = .empty → i.val ≤ j.val)
    ∨ ((∀ j : Fin 12, (d[j]).state ≠ .empty) ∧ (d[i]).state = .damaged ∧ ∀ j : Fin 12, (d[j]).state = .damaged → i.val ≤ j.val)
    ∨ ((∀ j : Fin 12, (d[j]).state ≠ .empty) ∧ (∀ j : Fin 12, (d[j]).state ≠ .damaged) ∧ oldestUnlocked d = some i) := by
  unfold chooseSlot at h
  split at h
  · rename_i hf
    cases h
    exact .inl ⟨by simpa using List.find?_some hf, fun j hj => find?_allSlots_le hf (by simpa using hj)⟩
  · rename_i hempty
    have hnone : ∀ j : Fin 12, (d[j]).state ≠ .empty := fun j => by
      simpa using List.find?_eq_none.mp hempty j (mem_allSlots j)
    split at h
    · rename_i hf
      cases h
      exact .inr (.inl ⟨hnone, by simpa using List.find?_some hf, fun j hj => find?_allSlots_le hf (by simpa using hj)⟩)
    · rename_i hdamaged
      exact .inr (.inr ⟨hnone, fun j => by simpa using List.find?_eq_none.mp hdamaged j (mem_allSlots j), h⟩)

theorem chooseSlot_none (h : chooseSlot d = none) (j : Fin 12) :
    (d[j]).state ≠ .empty ∧ (d[j]).state ≠ .damaged ∧ ¬((d[j]).state = .sealed ∧ (d[j]).lock = false) := by
  unfold chooseSlot at h
  split at h
  · cases h
  · rename_i hempty
    split at h
    · cases h
    · rename_i hdamaged
      exact ⟨by simpa using List.find?_eq_none.mp hempty j (mem_allSlots j),
        by simpa using List.find?_eq_none.mp hdamaged j (mem_allSlots j), oldestUnlocked_none h j⟩

/-- Eight locks leave an unlocked slot. -/
theorem exists_unlocked (h : lockedCount d ≤ maxLocked) : ∃ j : Fin 12, (d[j]).lock = false := by
  refine Classical.byContradiction fun hno => ?_
  have hall : (allSlots.filter fun j => (d[j]).lock) = allSlots :=
    List.filter_eq_self.mpr fun j _ => by
      refine Classical.byContradiction fun hj => ?_
      exact hno ⟨j, by simpa using hj⟩
  rw [lockedCount, hall] at h
  exact absurd h (by decide)

end

/-- While nothing is in flight no slot is SEALING, and R131 finds one. -/
theorem IncidentInv.chooseSlot_isSome (h : IncidentInv s) (hfree : s.nv.inFlight = none) :
    ∃ slot, chooseSlot s.recorder.directory = some slot := by
  cases hslot : chooseSlot s.recorder.directory with
  | some slot => exact ⟨slot, rfl⟩
  | none =>
    obtain ⟨j, hj⟩ := exists_unlocked h.directory.locked
    obtain ⟨hempty, hdamaged, hsealed⟩ := chooseSlot_none hslot j
    have hsealing : (s.recorder.directory[j]).state ≠ .sealing := h.no_sealing (by simp [hfree]) j
    cases hst : (s.recorder.directory[j]).state with
    | empty => exact absurd hst hempty
    | damaged => exact absurd hst hdamaged
    | sealed => exact absurd ⟨hst, hj⟩ hsealed
    | sealing => exact absurd hst hsealing

/-- What the grant of a SEAL leaves (R131). -/
theorem State.grantSeal_of_some {b : Fin 2} {slot : Fin 12} (h : chooseSlot s.recorder.directory = some slot) :
    s.grantSeal b = { s with
      nv := { s.nv with
        recorderWait := none
        inFlight := some (.sealing b slot
          ((s.recorder.buffers[b]).entries.any (fun e => isEmergency e.trigger)
            && decide (lockedCount s.recorder.directory < 8)) false) }
      recorder := { s.recorder with
        buffers := s.recorder.buffers.set b
          { s.recorder.buffers[b] with
            state := .sealing
            autoLockDenied := (s.recorder.buffers[b]).autoLockDenied
              || ((s.recorder.buffers[b]).entries.any (fun e => isEmergency e.trigger)
                && decide (8 ≤ lockedCount s.recorder.directory)) }
        directory := s.recorder.directory.set slot
          ⟨.sealing, false, (s.recorder.buffers[b]).sequence, (s.recorder.buffers[b]).firstKind⟩ } } := by
  have hroom : (!decide (lockedCount s.recorder.directory < maxLocked)) = decide (8 ≤ lockedCount s.recorder.directory) := by
    rw [← decide_not]
    exact decide_eq_decide.mpr Nat.not_lt
  rw [State.grantSeal, h]
  dsimp only
  rw [hroom]
  rfl

/-- Settles O29: under the laws of the incident store a slot is found, unlocked, by the rules in their order. -/
theorem sealIsGranted : Obligations.SealIsGranted := by
  unfold Obligations.SealIsGranted
  intro b s hinv hrestart hfree hwait
  obtain ⟨slot, hslot⟩ := hinv.chooseSlot_isSome hfree
  have hlock := chooseSlot_unlocked hinv.directory.sealedOnly hslot
  have hsealing : ∀ j : Fin 12, (s.recorder.directory[j]).state ≠ .sealing := hinv.no_sealing (by simp [hfree])
  have hgrant : s.grant = s.grantSeal b := by simp [State.grant, hrestart, hfree, hwait]
  refine ⟨slot, hslot, hlock, fun i hi => ?_, hsealing slot, fun hd i hi => ?_, fun hs i hi => ?_,
    hgrant.trans (State.grantSeal_of_some hslot)⟩
  · rcases chooseSlot_rules hslot with ⟨he, hall⟩ | ⟨hno, -⟩ | ⟨hno, -⟩
    · exact ⟨he, hall i hi⟩
    · exact absurd hi (hno i)
    · exact absurd hi (hno i)
  · rcases chooseSlot_rules hslot with ⟨he, -⟩ | ⟨-, -, hall⟩ | ⟨-, hno, -⟩
    · rw [hd] at he; cases he
    · exact hall i hi
    · exact absurd hd (hno slot)
  · rcases chooseSlot_rules hslot with ⟨he, -⟩ | ⟨-, he, -⟩ | ⟨hempty, hdamaged, hold⟩
    · rw [hs] at he; cases he
    · rw [hs] at he; cases he
    · have hsealed : (s.recorder.directory[i]).state = .sealed := by
        cases hst : (s.recorder.directory[i]).state with
        | empty => exact absurd hst (hempty i)
        | damaged => exact absurd hst (hdamaged i)
        | sealing => exact absurd hst (hsealing i)
        | sealed => rfl
      exact ⟨hsealed, (oldestUnlocked_some hold).2 i hsealed hi⟩

/-! ### Characters (R159, R160) -/

section
variable {a : Assembly} {kind n hi lo b : Byte} {payload got : List Byte}

theorem Assembly.run_append (xs ys : List LineChar) (a : Assembly) : a.run (xs ++ ys) =
    (((a.run xs).1.run ys).1, (a.run xs).2 ++ ((a.run xs).1.run ys).2) := by
  induction xs generalizing a with
  | nil => rfl
  | cons c cs ih => simp only [List.cons_append, Assembly.run, ih, List.append_assoc]

theorem Assembly.feed_framingError (a : Assembly) (b : Byte) : a.feed ⟨b, true⟩ = (.hunt, none) := rfl

theorem Assembly.feed_tooLong (h : 120 < b.toNat) : (Assembly.length kind).feed ⟨b, false⟩ = (.hunt, none) := by
  simp [Assembly.feed, longestPayload, h]

theorem Assembly.feed_crc (kind n hi lo : Byte) (got : List Byte) : (Assembly.check kind n got (some hi)).feed ⟨lo, false⟩ =
    (.hunt, if crc16 (kind :: n :: got) = hi ++ lo then some ⟨kind, got⟩ else none) := by
  simp [Assembly.feed, crcAgrees]

/-- The payload characters that are still to come. -/
theorem Assembly.run_payload (payload : List Byte) (got : List Byte) (h : payload ≠ []) :
    (Assembly.payload kind n payload.length got).run (payload.map fun b => ⟨b, false⟩) =
      (.check kind n (got.reverse ++ payload) none, []) := by
  induction payload generalizing got with
  | nil => exact absurd rfl h
  | cons b bs ih =>
    cases bs with
    | nil => simp [Assembly.run, Assembly.feed]
    | cons c cs =>
      have hfeed : (Assembly.payload kind n (b :: c :: cs).length got).feed ⟨b, false⟩ =
          (.payload kind n (c :: cs).length (b :: got), none) := by simp [Assembly.feed]
      rw [List.map_cons, Assembly.run, hfeed, ih (b :: got) (by simp)]
      simp

/-- The characters of a frame up to the last one. -/
theorem Assembly.run_frame (h : payload.length ≤ 120) (hi : Byte) :
    Assembly.hunt.run ((startMark :: kind :: BitVec.ofNat 8 payload.length :: payload ++ [hi]).map fun b => ⟨b, false⟩) =
      (.check kind (BitVec.ofNat 8 payload.length) payload (some hi), []) := by
  have hlen : (BitVec.ofNat 8 payload.length).toNat = payload.length := by
    rw [BitVec.toNat_ofNat]
    omega
  have hstart : Assembly.hunt.feed ⟨startMark, false⟩ = (.kind, none) := rfl
  have hkind : Assembly.kind.feed ⟨kind, false⟩ = (.length kind, none) := rfl
  rw [List.map_append, Assembly.run_append, List.map_cons, List.map_cons, List.map_cons]
  simp only [Assembly.run, hstart, hkind]
  cases payload with
  | nil => rfl
  | cons c cs =>
    have hlength : (Assembly.length kind).feed ⟨BitVec.ofNat 8 (c :: cs).length, false⟩ =
        (.payload kind (BitVec.ofNat 8 (c :: cs).length) (c :: cs).length [], none) := by
      have hne : BitVec.ofNat 8 (c :: cs).length ≠ 0 := fun h0 => by
        rw [h0] at hlen
        cases hlen
      simp only [Assembly.feed, hlen, longestPayload, if_neg hne, if_neg (Nat.not_lt.mpr h), Bool.false_eq_true, if_false]
    rw [hlength, Assembly.run_payload (c :: cs) [] (by simp)]
    rfl

theorem crc_halves (c : BitVec 16) : (c.extractLsb' 8 8 ++ c.extractLsb' 0 8 : BitVec 16) = c := by
  rw [BitVec.extractLsb'_append_extractLsb'_eq_extractLsb' (by omega)]
  simp

/-- The last character of a frame, and those before it. -/
theorem wireBytes_split (kind : Byte) (payload : List Byte) : wireBytes kind payload =
    (startMark :: kind :: BitVec.ofNat 8 payload.length :: payload
      ++ [(crc16 (kind :: BitVec.ofNat 8 payload.length :: payload)).extractLsb' 8 8])
      ++ [(crc16 (kind :: BitVec.ofNat 8 payload.length :: payload)).extractLsb' 0 8] := by
  simp [wireBytes]

/-- The characters of one whole frame give that frame (R159). -/
theorem Assembly.run_wireBytes (h : payload.length ≤ 120) :
    Assembly.hunt.run ((wireBytes kind payload).map fun b => ⟨b, false⟩) = (.hunt, [⟨kind, payload⟩]) := by
  rw [wireBytes_split, List.map_append, Assembly.run_append, Assembly.run_frame h]
  simp only [List.map_cons, List.map_nil, Assembly.run, Assembly.feed_crc, crc_halves, if_true]
  rfl

end

/-! ### What characters do to a port -/

section
variable {p : PortId}

theorem Ports.withPort_self (ps : Ports) (p : PortId) : ps.withPort p (ps.port.get p) = ps := by
  cases p <;> rfl

theorem State.withAssembly_self (s : State) (p : PortId) : s.withAssembly p (s.ports.port.get p).assembly = s := by
  rw [State.withAssembly, Ports.withPort_self]

theorem State.withAssembly_assembly (s : State) (p : PortId) (a : Assembly) :
    ((s.withAssembly p a).ports.port.get p).assembly = a := by cases p <;> rfl

theorem State.withAssembly_withAssembly (s : State) (p : PortId) (a b : Assembly) :
    (s.withAssembly p a).withAssembly p b = s.withAssembly p b := by cases p <;> rfl

theorem State.characters_append (cs ds : List LineChar) (s : State) :
    s.characters p (cs ++ ds) = (s.characters p cs).characters p ds := List.foldl_append ..

theorem State.character_of_none {c : LineChar} (h : ((s.ports.port.get p).assembly.feed c).2 = none) :
    s.character p c = s.withAssembly p ((s.ports.port.get p).assembly.feed c).1 := by
  rw [State.character, h]

theorem State.character_of_some {c : LineChar} {a : Assembly} {f : Received}
    (h : (s.ports.port.get p).assembly.feed c = (a, some f)) :
    s.character p c = (s.withAssembly p a).frame p f.kind f.payload := by
  rw [State.character, h]

/-- Characters that complete no frame move the assembly alone. -/
theorem State.characters_of_run {cs : List LineChar} (h : ((s.ports.port.get p).assembly.run cs).2 = []) :
    s.characters p cs = s.withAssembly p ((s.ports.port.get p).assembly.run cs).1 := by
  induction cs generalizing s with
  | nil => exact (s.withAssembly_self p).symm
  | cons c cs ih =>
    simp only [Assembly.run, List.append_eq_nil_iff, Option.toList_eq_nil_iff] at h
    obtain ⟨hnone, hrest⟩ := h
    have hstep := s.withAssembly_assembly p ((s.ports.port.get p).assembly.feed c).1
    rw [State.characters, List.foldl_cons, State.character_of_none hnone, ← State.characters, ih (by rwa [hstep]), hstep,
      State.withAssembly_withAssembly]
    rfl

/-- The characters of a whole frame, taken in HUNT, are that frame. -/
theorem State.characters_wireBytes {kind : Byte} {payload : List Byte} (hunt : (s.ports.port.get p).assembly = .hunt)
    (h : payload.length ≤ 120) :
    s.characters p ((wireBytes kind payload).map fun b => ⟨b, false⟩) = s.frame p kind payload := by
  have hrun := Assembly.run_frame (kind := kind) h ((crc16 (kind :: BitVec.ofNat 8 payload.length :: payload)).extractLsb' 8 8)
  rw [← hunt] at hrun
  have hlast : (s.withAssembly p (.check kind (BitVec.ofNat 8 payload.length) payload
      (some ((crc16 (kind :: BitVec.ofNat 8 payload.length :: payload)).extractLsb' 8 8)))).character p
      ⟨(crc16 (kind :: BitVec.ofNat 8 payload.length :: payload)).extractLsb' 0 8, false⟩ = s.frame p kind payload := by
    rw [State.character_of_some (a := .hunt) (f := ⟨kind, payload⟩), State.withAssembly_withAssembly, ← hunt,
      State.withAssembly_self]
    rw [State.withAssembly_assembly, Assembly.feed_crc, crc_halves, if_pos rfl]
  have hinit := State.characters_of_run (congrArg Prod.snd hrun)
  rw [hrun] at hinit
  rw [wireBytes_split, List.map_append, State.characters_append, hinit]
  exact hlast

theorem State.poweredKeeps : State.Keeps fun u => u.powered = true where
  aside _ _ hst h := hst.powered.trans h
  lines _ _ _ h := h
  event _ _ _ h := h
  order _ _ _ h := h
  placeSeal _ h := by rwa [State.placeSeal_powered]
  grant _ h := by rwa [State.grant_powered]
  reply _ _ _ _ _ _ h := h
  arrive _ _ h := h
  sample _ _ h := h
  placed _ _ _ _ _ _ h := h
  called _ _ _ h := h
  sealedState s h := by
    unfold State.sealedState
    split <;> exact h
  headerWritten s h := by
    unfold State.eraseHeaderWritten
    split <;> exact h
  completes _ _ hst h := hst.powered.trans h
  restartIfDue s h := by
    rcases State.restartIfDue_cases s with he | ⟨cause, -, -, -, he⟩ <;> rw [he]
    · exact h
    · rw [State.warmRestart, State.concludeReset_eq, State.nvTurn_powered, State.resetNoticed]
      split <;> exact h

theorem exec_frameDiscarded (h : s.powered = true) (cs : List LineChar) :
    exec (.frameDiscarded p cs) s = .next (s.characters p cs) := powered_on h

theorem exec_intercharacterGapTimeout (h : s.powered = true) (cs : List LineChar) :
    exec (.intercharacterGapTimeout p cs) s = .next ((s.characters p cs).withAssembly p .hunt) := powered_on h

end

/-- Settles O30: a run of the assembly is a run of the port, character by character. -/
theorem charactersAssemble : Obligations.CharactersAssemble := by
  unfold Obligations.CharactersAssemble
  refine ⟨fun kind payload h => Assembly.run_wireBytes h, fun p s hpow => ⟨fun chars h => ⟨?_, ?_⟩, fun c a f h => ?_,
    fun cs ds t h => ?_, fun a b => a.feed_framingError b, fun kind b h => Assembly.feed_tooLong h, fun kind n hi lo got h => ?_,
    fun hunt kind payload h => ?_⟩⟩
  · rw [exec_frameDiscarded hpow, State.characters_of_run h]
    rfl
  · rw [exec_intercharacterGapTimeout hpow, State.characters_of_run h, State.withAssembly_withAssembly]
    rfl
  · rw [exec_frameDiscarded hpow]
    exact (congrArg Host.Outcome.next (State.character_of_some h)).trans (exec_unknownKind (s := s.withAssembly p a) hpow).symm
  · rw [exec_frameDiscarded hpow, Host.Outcome.next.injEq] at h
    have ht : t.powered = true := h ▸ State.poweredKeeps.characters p cs hpow
    rw [exec_frameDiscarded hpow, exec_frameDiscarded ht, exec_intercharacterGapTimeout hpow, State.characters_append, h]
    exact ⟨rfl, rfl⟩
  · rw [Assembly.feed_crc, if_neg h]
  · rw [exec_frameDiscarded hpow, exec_unknownKind hpow, State.characters_wireBytes hunt h]

/-! ### The end of a transmission (R163, R189) -/

section
variable {p : PortId} {f : Frame} {ps : Ports}

theorem Ports.endTransmission_of_none (h : (ps.port.get p).sending = none) : ps.endTransmission p = ps := by
  rw [Ports.endTransmission, h]

theorem Ports.endTransmission_of_some (h : (ps.port.get p).sending = some f) :
    ps.endTransmission p = (ps.withPort p { ps.port.get p with sending := none }).start p := by
  rw [Ports.endTransmission, h]

/-- A port without a frame in transmission begins the first of its line (R163). -/
theorem Ports.start_sending (h : (ps.port.get p).sending = none) : ((ps.start p).port.get p).sending = (ps.line p).head? := by
  unfold Ports.start Ports.line
  simp only [h]
  by_cases hp : p = .traction
  · rw [if_pos hp, if_pos hp]
    cases ps.order with
    | some o => simp [Ports.withPort]
    | none => cases (ps.port.get p).replies <;> simp [Ports.withPort, h]
  · rw [if_neg hp, if_neg hp]
    cases (ps.port.get p).replies <;> simp [Ports.withPort, h]

/-- The frames of a line move up by one (R163). -/
theorem Ports.endTransmission_line (h : (ps.port.get p).sending = some f) :
    (ps.endTransmission p).line p = (ps.line p).tail
    ∧ ((ps.endTransmission p).port.get p).sending = (ps.line p).tail.head? := by
  have hidle : ((ps.withPort p { ps.port.get p with sending := none }).port.get p).sending = none := by simp [Ports.withPort]
  have hline : (ps.withPort p { ps.port.get p with sending := none }).line p = (ps.line p).tail := by
    simp [Ports.line, Ports.withPort, h]
  rw [Ports.endTransmission_of_some h, Ports.line_start, Ports.start_sending hidle, hline]
  exact ⟨rfl, rfl⟩

theorem PerPort.ext_get {α : Type} {x y : PerPort α} (h : ∀ q, x.get q = y.get q) : x = y := by
  have hcab := h .cab
  have htraction := h .traction
  have hsupervision := h .supervision
  have hservice := h .service
  cases x
  cases y
  simp_all [PerPort.get]

theorem Ports.endTransmission_rest (h : (ps.port.get p).sending = some f) :
    ((ps.endTransmission p).port.get p).assembly = (ps.port.get p).assembly
    ∧ ps.endTransmission p = { ps with
        port := ps.port.set p ((ps.endTransmission p).port.get p), order := (ps.endTransmission p).order }
    ∧ (p ≠ .traction → (ps.endTransmission p).order = ps.order) := by
  rw [Ports.endTransmission_of_some h]
  obtain ⟨hothers, hassembly, horder, hrest⟩ := Ports.start_rest (ps.withPort p { ps.port.get p with sending := none }) p
  generalize (ps.withPort p { ps.port.get p with sending := none }).start p = qs at hothers hassembly horder hrest ⊢
  refine ⟨hassembly.trans (by simp [Ports.withPort]), ?_, horder⟩
  have hport : qs.port = ps.port.set p (qs.port.get p) := by
    refine PerPort.ext_get fun q => ?_
    by_cases hq : q = p
    · subst hq
      simp
    · rw [hothers q hq]
      simp [Ports.withPort, PerPort.get_set_ne _ _ hq]
  rw [← hport, hrest]
  rfl

end

/-- A turn of the controller places no service operation (R186). -/
theorem State.nvTurn_serviceWait (h : s.nv.serviceWait = none) : s.nvTurn.nv.serviceWait = none := by
  have hg : ∀ u : State, u.nv.serviceWait = none → u.grant.nv.serviceWait = none := by
    intro u hu
    rcases State.grant_cases (s := u) with he | ⟨-, -, ⟨b, -, he⟩ | ⟨op, -, hop, -⟩⟩
    · rwa [he]
    · rw [he]
      rcases u.grantSeal_cases b with hs | ⟨slot, denied, -, hs⟩ <;> rw [hs] <;> exact hu
    · rw [hu] at hop
      cases hop
  rw [State.nvTurn, State.placeSeal_eq]
  exact hg _ (by rw [State.placeSeal_eq]; exact h)

theorem State.warmRestart_serviceWait (cause : ResetCause) (s : State) : (s.warmRestart cause).nv.serviceWait = none := by
  rw [State.warmRestart, State.concludeReset_eq]
  refine State.nvTurn_serviceWait ?_
  rw [State.resetNoticed]
  split <;> rfl

/-- Settles O31: the line moves up by one frame, and a restart that waited for the RESTART reply is then due. -/
theorem transmissionEndsNextBegins : Obligations.TransmissionEndsNextBegins := by
  unfold Obligations.TransmissionEndsNextBegins
  intro p s hpow
  refine ⟨s.transmissionEnds p, powered_on hpow, fun hrestart hidle => ?_, fun hrestart f hf => ?_,
    fun cause hrestart hfree hp hf hnot => ?_⟩
  · rw [State.transmissionEnds, Ports.endTransmission_of_none hidle]
    exact State.restartIfDue_of_none hrestart
  · have ht : s.transmissionEnds p = { s with ports := s.ports.endTransmission p } := State.restartIfDue_of_none hrestart
    obtain ⟨hline, hsending⟩ := Ports.endTransmission_line hf
    obtain ⟨hassembly, hrest, horder⟩ := Ports.endTransmission_rest hf
    rw [ht]
    refine ⟨hline, hsending, hassembly, ?_, horder⟩
    dsimp only
    rw [← hrest]
  · subst hp
    have hline : (s.ports.endTransmission .service).line .service = s.ports.port.service.replies := by
      rw [(Ports.endTransmission_line (p := .service) hf).1]
      simp [Ports.line, PerPort.get, hf]
    have howed : (s.ports.endTransmission .service).restartOwed = false := by
      rwa [← Bool.not_eq_true, Ports.restartOwed_iff, hline]
    rw [State.transmissionEnds, State.restartIfDue_of_due (s := { s with ports := s.ports.endTransmission .service }) hrestart
      hfree howed]
    exact ⟨State.warmRestart_restart .., State.warmRestart_lastReset .., State.warmRestart_serviceWait ..,
      (State.warmRestart_service ..).1⟩

end

end Sys2Proof.Machine

/-! SUPPORT. Events that reach the arbiter otherwise than by a frame, and the orders of clips and emergencies: the obligations O33, O34, O35 and O36. -/

namespace Sys2Proof.Machine

section
variable {s : State}

/-! ### The raisers of S8 (R17, R18, R19, R22) -/

section
variable {a : Arbiter}

/-- The arbiter that examines the LINE and PIPE raisers with the copies that an event gives it (R19). -/
def Arbiter.examined (cfg : ConfigSet) (now : Nat) (line pipe still : Bool) (a : Arbiter) : Arbiter :=
  Arbiter.evaluateRaisers cfg now { a with lineAsserted := line, pipePresent := pipe, standstill := still }

/-- The raisers that an examination leaves (R18, R19). -/
def Arbiter.examinedRaisers (cfg : ConfigSet) (now : Nat) (line pipe still : Bool) (a : Arbiter) : EmergencyRaisers :=
  if still = true ∧ a.nonIdle .s8 = true ∧ a.entries.s8.stamp + cfg.emergencyHoldMs ≤ now then
    { a.emergencyRaisers with line := a.emergencyRaisers.line && line, pipe := a.emergencyRaisers.pipe && pipe }
  else a.emergencyRaisers

theorem Arbiter.examined_eq (cfg : ConfigSet) (now : Nat) (line pipe still : Bool) (a : Arbiter) :
    a.examined cfg now line pipe still = { a with
      lineAsserted := line, pipePresent := pipe, standstill := still
      emergencyRaisers := a.examinedRaisers cfg now line pipe still } := by
  have hcond : ({ a with lineAsserted := line, pipePresent := pipe, standstill := still } : Arbiter).standstill
      && Arbiter.holdPassed cfg now { a with lineAsserted := line, pipePresent := pipe, standstill := still } ↔
      still = true ∧ a.nonIdle .s8 = true ∧ a.entries.s8.stamp + cfg.emergencyHoldMs ≤ now := by
    change (still && (a.nonIdle .s8 && decide (a.entries.s8.stamp + cfg.emergencyHoldMs ≤ now))) = true ↔ _
    simp only [Bool.and_eq_true, decide_eq_true_eq]
  rw [Arbiter.examined, Arbiter.evaluateRaisers, Arbiter.examinedRaisers]
  split
  · rw [if_pos (hcond.mp ‹_›)]
  · rw [if_neg (mt hcond.mpr ‹_›)]

theorem Arbiter.takeStandstill_eq (cfg : ConfigSet) (now : Nat) (still : Bool) (a : Arbiter) :
    a.takeStandstill cfg now still = a.examined cfg now a.lineAsserted a.pipePresent still := by
  cases still with
  | true => rfl
  | false => rw [Arbiter.examined_eq]; rfl

theorem Arbiter.follows_examined (ha : a.Lawful) (hc : a.Conditioned) (cfg : ConfigSet) (now : Nat) (line pipe still : Bool) :
    Arbiter.Follows cfg now [.s8] a (Arbiter.settle cfg now (a.examined cfg now line pipe still)) := by
  rw [Arbiter.examined_eq]
  refine Arbiter.follows_of_conditions ha hc cfg now _ rfl rfl rfl fun g hg => ?_
  cases g with
  | s8 => simp at hg
  | _ => rfl

end

/-- What an event leaves at which the raisers are examined: the pin and the deliveries are as it took them. -/
theorem State.arbiterEvent_examined {f : Arbiter → Arbiter} {pin line pipe still : Bool} {ds : List Instr} {t : State}
    (hi : ArbiterInv s) (hf : f s.arbiter = s.arbiter.examined s.cfg s.time line pipe still)
    (ht : t = State.arbiterEvent f { s with emergencyLine := pin, deliveries := ds }) :
    t.emergencyLine = pin ∧ ArbiterReports { s with emergencyLine := t.emergencyLine, deliveries := ds } t
    ∧ t.arbiter.lineAsserted = line ∧ t.arbiter.pipePresent = pipe ∧ t.arbiter.standstill = still
    ∧ t.arbiter.emergencyRaisers =
        (if t.arbiter.standstill = true ∧ s.arbiter.nonIdle .s8 = true
            ∧ s.arbiter.entries.s8.stamp + s.store.live.emergencyHoldMs ≤ s.time then
          { s.arbiter.emergencyRaisers with
            line := s.arbiter.emergencyRaisers.line && t.arbiter.lineAsserted
            pipe := s.arbiter.emergencyRaisers.pipe && t.arbiter.pipePresent }
         else s.arbiter.emergencyRaisers)
    ∧ Arbiter.Follows s.store.live s.time [.s8] s.arbiter t.arbiter
    ∧ Arbiter.Rest { s.arbiter with
        lineAsserted := t.arbiter.lineAsserted, pipePresent := t.arbiter.pipePresent
        standstill := t.arbiter.standstill, emergencyRaisers := t.arbiter.emergencyRaisers } t.arbiter := by
  have hreports := State.arbiterEvent_reports f { s with emergencyLine := pin, deliveries := ds }
  have hfollows := Arbiter.follows_examined hi.lawful hi.conditioned s.cfg s.time line pipe still
  have hrest := Arbiter.rest_settle s.cfg s.time (s.arbiter.examined s.cfg s.time line pipe still)
  have harb : t.arbiter = Arbiter.settle s.cfg s.time (s.arbiter.examined s.cfg s.time line pipe still) := by
    rw [ht, State.arbiterEvent_arbiter]
    exact congrArg _ hf
  have hpin : t.emergencyLine = pin := by rw [ht]; rfl
  rw [← ht] at hreports
  rw [← harb, Arbiter.examined_eq] at hrest
  rw [← harb] at hfollows
  have hline : t.arbiter.lineAsserted = line := by rw [hrest]
  have hpipe : t.arbiter.pipePresent = pipe := by rw [hrest]
  have hstill : t.arbiter.standstill = still := by rw [hrest]
  have hraisers : t.arbiter.emergencyRaisers = s.arbiter.examinedRaisers s.cfg s.time line pipe still := by rw [hrest]
  rw [hpin, hline, hpipe, hstill, hraisers]
  exact ⟨rfl, hreports, rfl, rfl, rfl, rfl, hfollows, hrest⟩

/-- Settles O33: each of the four events gives the arbiter its copies and has the raisers examined. -/
theorem raisersExamined : Obligations.RaisersExamined := by
  unfold Obligations.RaisersExamined
  intro c s hpow hi hc
  rcases hc with rfl | rfl | rfl | ⟨set, rfl⟩
  · refine ⟨s.arbiterEvent (.evaluateRaisers s.cfg s.time), powered_on hpow, ?_⟩
    simp only [reduceCtorEq, if_false, exists_false, or_self]
    exact State.arbiterEvent_examined (f := .evaluateRaisers s.cfg s.time) hi rfl rfl
  · refine ⟨State.arbiterEvent (.takeLineReleased s.cfg s.time) { s with emergencyLine := false }, powered_on hpow, ?_⟩
    simp only [reduceCtorEq, if_false, if_true, exists_false, or_self]
    exact State.arbiterEvent_examined (f := .takeLineReleased s.cfg s.time) hi rfl rfl
  · refine ⟨_, delivered_on hpow, ?_⟩
    simp only [reduceCtorEq, if_false, if_true, exists_false, or_false]
    exact State.arbiterEvent_examined (f := .takePipeCleared s.cfg s.time) hi rfl rfl
  · obtain ⟨t, ht⟩ : ∃ t, t = State.standstillChange set { s with deliveries := s.deliveries.erase (.standstillChange set) } :=
      ⟨_, rfl⟩
    have hset : (if Instr.standstillChange set = .standstillChange true then true
        else if Instr.standstillChange set = .standstillChange false then false else s.arbiter.standstill) = set := by
      cases set <;> simp
    refine ⟨t, ht ▸ delivered_on hpow, ?_⟩
    simp only [reduceCtorEq, if_false]
    rw [if_pos (.inr ⟨set, rfl⟩), hset]
    exact State.arbiterEvent_examined hi (Arbiter.takeStandstill_eq ..) ht

/-! ### A raiser is added (R17) -/

theorem Arbiter.follows_raised {a b : Arbiter} (ha : a.Lawful) (hc : a.Conditioned) (cfg : ConfigSet) (now : Nat)
    (line pipe : Bool) (r : EmergencyRaisers) (hb : b = { a with lineAsserted := line, pipePresent := pipe, emergencyRaisers := r }) :
    Arbiter.Follows cfg now [.s8] a (Arbiter.settle cfg now b) := by
  subst hb
  refine Arbiter.follows_of_conditions ha hc cfg now _ rfl rfl rfl fun g hg => ?_
  cases g with
  | s8 => simp at hg
  | _ => rfl

/-- What an event leaves that adds a raiser (R17). -/
theorem State.arbiterEvent_raised {f : Arbiter → Arbiter} {line pipe : Bool} {r : EmergencyRaisers} (hi : ArbiterInv s)
    (hf : f s.arbiter = { s.arbiter with lineAsserted := line, pipePresent := pipe, emergencyRaisers := r }) (hr : r.any = true) :
    (s.arbiterEvent f).arbiter.nonIdle .s8 = true
    ∧ Arbiter.Follows s.store.live s.time [.s8] s.arbiter (s.arbiterEvent f).arbiter
    ∧ Arbiter.Rest { s.arbiter with lineAsserted := line, pipePresent := pipe, emergencyRaisers := r }
        (s.arbiterEvent f).arbiter := by
  have hfollows := Arbiter.follows_raised hi.lawful hi.conditioned s.cfg s.time line pipe r hf
  have hrest := Arbiter.rest_settle s.cfg s.time (f s.arbiter)
  rw [State.arbiterEvent_arbiter]
  generalize Arbiter.settle s.cfg s.time (f s.arbiter) = b at hfollows hrest ⊢
  rw [hf] at hrest
  refine ⟨?_, hfollows, hrest⟩
  have hraisers : b.emergencyRaisers = r := by rw [hrest]
  rw [hfollows.conditioned .s8]
  exact (congrArg EmergencyRaisers.any hraisers).trans hr

/-- Settles O34: the line and the pipe condition each add a raiser, which is S8's condition. -/
theorem raisersAdded : Obligations.RaisersAdded := by
  unfold Obligations.RaisersAdded
  intro s hpow hi
  refine ⟨⟨_, powered_on hpow, State.arbiterEvent_reports _ { s with emergencyLine := true }, ?_⟩,
    ⟨_, delivered_on hpow, State.arbiterEvent_reports _ _, ?_⟩⟩
  · exact State.arbiterEvent_raised (s := { s with emergencyLine := true }) (f := .takeLineAsserted) (hi.of_arbiter rfl) rfl
      (by simp [EmergencyRaisers.any])
  · exact State.arbiterEvent_raised (f := .takePipeBegun) (hi.of_arbiter rfl) rfl (by simp [EmergencyRaisers.any])

/-! ### Transducer health (R26) -/

theorem Arbiter.restraintMet_iff {a : Arbiter} : a.restraintMet = true ↔
    a.configValid = true ∧ a.cabFresh = true ∧ a.supervisionFresh = true
      ∧ a.healthyA = true ∧ a.healthyB = true ∧ a.healthyPipe = true := by
  simp [Arbiter.restraintMet, and_assoc]

/-- The arbiter with the copy of a transducer's health that an event gives it (R26). -/
def Arbiter.withHealth (a : Arbiter) (which : Transducer) (healthy : Bool) : Arbiter :=
  { a with
    healthyA := if which = .bcA then healthy else a.healthyA
    healthyB := if which = .bcB then healthy else a.healthyB
    healthyPipe := if which = .pipe then healthy else a.healthyPipe }

theorem Arbiter.takeHealth_eq (a : Arbiter) (which : Transducer) (healthy : Bool) : a.takeHealth which healthy =
    { a.withHealth which healthy with
      restraintRaised := a.restraintRaised && !(a.withHealth which healthy).restraintMet } := by
  cases which <;> exact Arbiter.evaluateRestraint_eq _

theorem Arbiter.follows_takeHealth {a : Arbiter} (ha : a.Lawful) (hc : a.Conditioned) (cfg : ConfigSet) (now : Nat)
    (which : Transducer) (healthy : Bool) :
    Arbiter.Follows cfg now [.s7] a (Arbiter.settle cfg now (a.takeHealth which healthy)) := by
  rw [Arbiter.takeHealth_eq]
  refine Arbiter.follows_of_conditions ha hc cfg now _ rfl rfl rfl fun g hg => ?_
  cases g with
  | s7 => simp at hg
  | _ => rfl

/-- Settles O35: the health is copied, and restraint's condition is cleared exactly where the five conditions then hold. -/
theorem transducerHealthTaken : Obligations.TransducerHealthTaken := by
  unfold Obligations.TransducerHealthTaken
  intro which healthy s hpow hi
  have hfollows := Arbiter.follows_takeHealth hi.lawful hi.conditioned s.cfg s.time which healthy
  have hrest := Arbiter.rest_settle s.cfg s.time (s.arbiter.takeHealth which healthy)
  have harb : (State.arbiterEvent (.takeHealth which healthy)
      { s with deliveries := s.deliveries.erase (.transducerHealthChange which healthy) }).arbiter =
      Arbiter.settle s.cfg s.time (s.arbiter.takeHealth which healthy) := State.arbiterEvent_arbiter ..
  refine ⟨_, delivered_on hpow, State.arbiterEvent_reports _ _, ?_⟩
  rw [harb]
  generalize Arbiter.settle s.cfg s.time (s.arbiter.takeHealth which healthy) = b at hfollows hrest ⊢
  rw [Arbiter.takeHealth_eq] at hrest
  have hA : b.healthyA = if which = .bcA then healthy else s.arbiter.healthyA := by rw [hrest]; rfl
  have hB : b.healthyB = if which = .bcB then healthy else s.arbiter.healthyB := by rw [hrest]; rfl
  have hP : b.healthyPipe = if which = .pipe then healthy else s.arbiter.healthyPipe := by rw [hrest]; rfl
  have hR : b.restraintRaised = (s.arbiter.restraintRaised && !(s.arbiter.withHealth which healthy).restraintMet) := by rw [hrest]
  refine ⟨hA, hB, hP, ?_, hfollows, ?_⟩
  · have hnow : b.nonIdle .s7 = b.restraintRaised := hfollows.conditioned .s7
    have hwas : s.arbiter.nonIdle .s7 = s.arbiter.restraintRaised := hi.conditioned .s7
    rw [hnow, hwas, hR, hA, hB, hP]
    rw [Bool.and_eq_true, Bool.not_eq_true', ← Bool.not_eq_true, Arbiter.restraintMet_iff]
    exact Iff.rfl
  · rw [hA, hB, hP, hR]
    exact hrest

/-! ### The orders of clips and emergencies (R50, R52, R53) -/

/-- An order carries the commands of the ledger that it is built of, guarded (R50). -/
theorem State.order_ordered (reason : OrderReason) (s : State) : s.Ordered (s.order reason) reason where
  commands i := by
    change (guardedCommands s.arbiter.record.emergency s.limits s.ledger.cmd).get i = _
    simp [guardedCommands, State.limits]
  ledger := rfl
  line := Ports.handOrder_line ..
  rest := by
    have hports := s.ports.handOrder_rest
      ⟨(s.ledger.ordered s.arbiter.record.emergency s.limits reason).cmd, reason⟩
    rw [State.order]
    dsimp only
    rw [← hports]
  assembly := Ports.handOrder_assembly ..

/-- While S8 is non-idle every order is of zeros (R27, R50). -/
theorem State.Ordered.zero {t : State} {reason : OrderReason} (h : s.Ordered t reason) (hi : ArbiterInv s)
    (h8 : s.arbiter.nonIdle .s8 = true) (j : Axle) : t.ledger.cmd.get j = 0 := by
  have hrecord : s.arbiter.record.emergency = true := by rw [hi.record]; exact h8
  rw [h.commands, if_pos hrecord]

/-- Settles O36: a clip at or below its limit does nothing, and the other two build an order. -/
theorem clipAndEmergencyOrders : Obligations.ClipAndEmergencyOrders := by
  unfold Obligations.ClipAndEmergencyOrders
  intro i s hpow hi
  refine ⟨fun hle => ?_, fun hlt => ⟨_, delivered_on hpow, ?_⟩, _, delivered_on hpow, ?_⟩
  · refine (delivered_on hpow).trans (congrArg Host.Outcome.next ?_)
    exact if_neg (Nat.not_lt.mpr hle)
  · have hclip : State.clip i { s with deliveries := s.deliveries.erase (.clipRequest i) } = State.order .clip
        { s with
          deliveries := s.deliveries.erase (.clipRequest i)
          ledger := { s.ledger with cmd := s.ledger.cmd.set i (s.slide.axles.get i).lim } } := if_pos hlt
    have hordered := State.order_ordered .clip { s with
      deliveries := s.deliveries.erase (.clipRequest i)
      ledger := { s.ledger with cmd := s.ledger.cmd.set i (s.slide.axles.get i).lim } }
    rw [hclip]
    exact ⟨hordered, hordered.zero (hi.of_arbiter rfl)⟩
  · have hordered := State.order_ordered .emergency { s with
      deliveries := s.deliveries.erase .emergencyNotice
      ledger := { s.ledger with cmd := ⟨0, 0, 0, 0, 0, 0⟩ } }
    refine ⟨hordered, fun j => (hordered.commands j).trans ?_⟩
    cases j <;> simp [PerAxle.get]

end

end Sys2Proof.Machine

/-! SUPPORT. The water-fill of the electric target (R38): the obligation O39. -/

namespace Sys2Proof.Machine

section
variable {us given : List (Axle × Nat)} {t share : Nat}

/-- The unsettled axles of a pass stand in ascending number. -/
def Ascending (us : List (Axle × Nat)) : Prop := us.Pairwise fun u v => u.1.number < v.1.number

/-- What the water-fill gives of a target to unsettled axles with their caps: every axle its share, the target in all, and to an axle below its cap at least the even share and at most one unit less than to any other, one unit less only than to lower axle numbers (R38). -/
structure Filled (t : Nat) (us given : List (Axle × Nat)) : Prop where
  axles : (given.map Prod.fst).Perm (us.map Prod.fst)
  sum : (given.map Prod.snd).sum = t
  even : ∀ i c x, (i, c) ∈ us → (i, x) ∈ given → x < c → t / us.length ≤ x
  close : ∀ i c x, (i, c) ∈ us → (i, x) ∈ given → x < c →
    ∀ j y, (j, y) ∈ given → y ≤ x + 1 ∧ (y = x + 1 → j.number < i.number)

theorem Ascending.nodup (h : Ascending us) : (us.map Prod.fst).Nodup :=
  List.pairwise_map.mpr (h.imp fun hlt heq => absurd (congrArg Axle.number heq) (Nat.ne_of_lt hlt))

/-- An axle stands once in the list. -/
theorem eq_of_axle (h : (us.map Prod.fst).Nodup) {i : Axle} {x y : Nat} (hx : (i, x) ∈ us) (hy : (i, y) ∈ us) : x = y :=
  congrArg Prod.snd (eq_of_nodup_map h hx hy rfl)

/-! ### The last pass (R38, step 5) -/

theorem shareOut_axles (share rest : Nat) (us : List (Axle × Nat)) : (shareOut share rest us).map Prod.fst = us.map Prod.fst := by
  induction us generalizing rest with
  | nil => rfl
  | cons u us ih => simp [shareOut, ih]

theorem shareOut_sum (share : Nat) (us : List (Axle × Nat)) : ∀ rest, rest ≤ us.length →
    ((shareOut share rest us).map Prod.snd).sum = share * us.length + rest := by
  induction us with
  | nil =>
    intro rest h
    simp only [List.length_nil, Nat.le_zero] at h
    subst h
    rfl
  | cons u us ih =>
    intro rest h
    have hrest : rest - 1 ≤ us.length := by simp only [List.length_cons] at h; omega
    simp only [shareOut, List.map_cons, List.sum_cons, ih _ hrest, List.length_cons, Nat.mul_succ]
    split <;> omega

theorem shareOut_share {share rest : Nat} {us : List (Axle × Nat)} {i : Axle} {x : Nat} (h : (i, x) ∈ shareOut share rest us) :
    x = share ∨ x = share + 1 ∧ 0 < rest := by
  induction us generalizing rest with
  | nil => cases h
  | cons u us ih =>
    rcases List.mem_cons.mp h with he | hin
    · cases he
      split
      · exact .inr ⟨rfl, ‹_›⟩
      · exact .inl rfl
    · exact (ih hin).imp_right fun ⟨hx, hr⟩ => ⟨hx, by omega⟩

/-- The unit more goes to the lower axle numbers. -/
theorem shareOut_lower {share rest : Nat} {us : List (Axle × Nat)} (hus : Ascending us) {i j : Axle}
    (hi : (i, share) ∈ shareOut share rest us) (hj : (j, share + 1) ∈ shareOut share rest us) : j.number < i.number := by
  induction us generalizing rest with
  | nil => cases hi
  | cons u us ih =>
    have hlater : ∀ k x, (k, x) ∈ shareOut share (rest - 1) us → u.1.number < k.number := by
      intro k x hk
      have hk' : k ∈ us.map Prod.fst := by
        rw [← shareOut_axles share (rest - 1) us]
        exact List.mem_map_of_mem (f := Prod.fst) hk
      obtain ⟨v, hv, rfl⟩ := List.mem_map.mp hk'
      exact List.rel_of_pairwise_cons hus hv
    by_cases hrest : 0 < rest
    · have hi' : (i, share) ∈ shareOut share (rest - 1) us := by
        rcases List.mem_cons.mp hi with he | hin
        · rw [if_pos hrest] at he
          simp at he
        · exact hin
      rcases List.mem_cons.mp hj with he | hin
      · rw [(Prod.mk.inj he).1]
        exact hlater i share hi'
      · exact ih (List.Pairwise.of_cons hus) hi' hin
    · rcases shareOut_share hj with h | ⟨-, h⟩
      · omega
      · exact absurd h hrest

/-- The last pass fills. -/
theorem Filled.shareOut (hus : Ascending us) (hne : us.length ≠ 0) :
    Filled t us (shareOut (t / us.length) (t - t / us.length * us.length) us) where
  axles := by rw [shareOut_axles]
  sum := by
    have hmod := Nat.div_add_mod' t us.length
    have hlt := Nat.mod_lt t (Nat.pos_of_ne_zero hne)
    rw [shareOut_sum _ _ _ (by omega)]
    omega
  even i c x _ hx _ := by rcases shareOut_share hx with h | ⟨h, -⟩ <;> omega
  close i c x _ hx _ j y hy := by
    refine ⟨?_, fun he => ?_⟩
    · rcases shareOut_share hx with h | ⟨h, -⟩ <;> rcases shareOut_share hy with h' | ⟨h', -⟩ <;> omega
    · rcases shareOut_share hx with h | ⟨h, -⟩
      · subst h
        subst he
        exact shareOut_lower hus hx hy
      · rcases shareOut_share hy with h' | ⟨h', -⟩ <;> omega

/-! ### A pass that settles axles (R38, steps 2 to 4) -/

theorem sum_le_of_le {l : List (Axle × Nat)} (h : ∀ u ∈ l, u.2 ≤ share) : (l.map Prod.snd).sum ≤ share * l.length := by
  induction l with
  | nil => exact Nat.zero_le _
  | cons u l ih =>
    have hl := ih fun x hx => h x (List.mem_cons_of_mem u hx)
    have hu := h u List.mem_cons_self
    rw [List.map_cons, List.sum_cons, List.length_cons, Nat.mul_succ, Nat.add_comm]
    exact Nat.add_le_add hl hu

theorem filter_axles_perm (share : Nat) (us : List (Axle × Nat)) :
    ((us.filter fun u => u.2 ≤ share) ++ us.filter fun u => share < u.2).Perm us := by
  have hother : (us.filter fun u => share < u.2) = us.filter fun u => !decide (u.2 ≤ share) := by
    refine List.filter_congr fun u _ => ?_
    rw [← decide_not]
    exact decide_eq_decide.mpr Nat.not_le.symm
  rw [hother]
  exact List.filter_append_perm _ us

/-- A pass that settles axles fills, where the passes after it do. -/
theorem Filled.settle (hus : Ascending us) (hshare : share = t / us.length)
    (hrest : Filled (t - ((us.filter fun u => u.2 ≤ share).map Prod.snd).sum) (us.filter fun u => share < u.2) given) :
    Filled t us ((us.filter fun u => u.2 ≤ share) ++ given) := by
  have hperm := filter_axles_perm share us
  have hlen : (us.filter fun u => u.2 ≤ share).length + (us.filter fun u => share < u.2).length = us.length := by
    rw [← List.length_append, hperm.length_eq]
  have hsettled : ((us.filter fun u => u.2 ≤ share).map Prod.snd).sum ≤ share * (us.filter fun u => u.2 ≤ share).length :=
    sum_le_of_le fun u hu => by simpa using (List.mem_filter.mp hu).2
  have hwhole : share * us.length ≤ t := by rw [hshare]; exact Nat.div_mul_le_self t us.length
  have hsplit : share * us.length = share * (us.filter fun u => u.2 ≤ share).length + share * (us.filter fun u => share < u.2).length := by
    rw [← hlen, Nat.mul_add]
  have hunsettled : ∀ i c x, (i, c) ∈ us → (i, x) ∈ (us.filter fun u => u.2 ≤ share) ++ given → x < c →
      (i, x) ∈ given ∧ (i, c) ∈ us.filter fun u => share < u.2 := by
    intro i c x hc hx hlt
    rcases List.mem_append.mp hx with hin | hin
    · exact absurd (eq_of_axle hus.nodup (List.mem_filter.mp hin).1 hc) (Nat.ne_of_lt hlt)
    · refine ⟨hin, ?_⟩
      have hi : i ∈ (us.filter fun u => share < u.2).map Prod.fst :=
        hrest.axles.mem_iff.mp (List.mem_map_of_mem (f := Prod.fst) hin)
      obtain ⟨⟨k, c'⟩, hv, rfl⟩ := List.mem_map.mp hi
      rwa [← eq_of_axle hus.nodup (List.mem_filter.mp hv).1 hc]
  have heven : ∀ i c x, (i, x) ∈ given → (i, c) ∈ (us.filter fun u => share < u.2) → x < c → share ≤ x := by
    intro i c x hx hc hlt
    refine Nat.le_trans ?_ (hrest.even i c x hc hx hlt)
    rw [Nat.le_div_iff_mul_le (List.length_pos_of_mem hc)]
    omega
  refine ⟨?_, ?_, fun i c x hc hx hlt => ?_, fun i c x hc hx hlt j y hy => ?_⟩
  · rw [List.map_append]
    refine (List.Perm.append_left _ hrest.axles).trans ?_
    rw [← List.map_append]
    exact hperm.map _
  · rw [List.map_append, List.sum_append, hrest.sum]
    omega
  · obtain ⟨hg, hu⟩ := hunsettled i c x hc hx hlt
    rw [← hshare]
    exact heven i c x hg hu hlt
  · obtain ⟨hg, hu⟩ := hunsettled i c x hc hx hlt
    rcases List.mem_append.mp hy with hin | hin
    · have hle : y ≤ share := by simpa using (List.mem_filter.mp hin).2
      have := heven i c x hg hu hlt
      omega
    · exact hrest.close i c x hu hg hlt j y hin

/-- As many passes as there are axles fill a target that the caps can hold (R38). -/
theorem fillPasses_filled (fuel : Nat) : ∀ (t : Nat) (us : List (Axle × Nat)), Ascending us → us.length ≤ fuel →
    t ≤ (us.map Prod.snd).sum → Filled t us (fillPasses fuel t us) := by
  have hempty : ∀ t : Nat, t ≤ (([] : List (Axle × Nat)).map Prod.snd).sum → Filled t [] [] := fun t ht =>
    ⟨.refl _, (Nat.le_zero.mp ht).symm, fun _ _ _ h => absurd h List.not_mem_nil,
      fun _ _ _ h => absurd h List.not_mem_nil⟩
  induction fuel with
  | zero =>
    intro t us _ hlen ht
    rw [List.length_eq_zero_iff.mp (Nat.le_zero.mp hlen)] at ht ⊢
    exact hempty t ht
  | succ fuel ih =>
    intro t us hus hlen ht
    rw [fillPasses]
    split
    · rename_i hzero
      rw [List.length_eq_zero_iff.mp hzero] at ht ⊢
      exact hempty t ht
    · rename_i hne
      dsimp only
      split
      · exact .shareOut hus hne
      · rename_i hsome
        have hperm := filter_axles_perm (t / us.length) us
        have hcount : (us.filter fun u => u.2 ≤ t / us.length).length + (us.filter fun u => t / us.length < u.2).length = us.length := by
          rw [← List.length_append, hperm.length_eq]
        have hcaps : ((us.filter fun u => u.2 ≤ t / us.length).map Prod.snd).sum
            + ((us.filter fun u => t / us.length < u.2).map Prod.snd).sum = (us.map Prod.snd).sum := by
          rw [← List.sum_append, ← List.map_append, (hperm.map Prod.snd).sum_nat]
        exact .settle hus rfl (ih _ _ (hus.filter _) (by omega) (by omega))

/-! ### The axles' targets -/

/-- What the water-fill gives an axle. -/
theorem givenTo_of_mem (h : (given.map Prod.fst).Nodup) {i : Axle} {x : Nat} (hx : (i, x) ∈ given) : givenTo i given = x := by
  unfold givenTo
  split
  · rename_i u hu
    have hi : u.1 = i := by simpa using List.find?_some hu
    exact eq_of_axle h (i := i) (hi ▸ List.mem_of_find?_eq_some hu) hx
  · rename_i hnone
    have hne := List.find?_eq_none.mp hnone _ hx
    simp at hne

theorem PerAxle.sum_eq (v : PerAxle Nat) : v.sum = (Axle.all.map v.get).sum := by
  simp [PerAxle.sum, Axle.all, PerAxle.get, Nat.add_assoc]

/-- The six axles with their caps. -/
def capped (cap : PerAxle Nat) : List (Axle × Nat) := Axle.all.map fun i => (i, cap.get i)

theorem capped_axles (cap : PerAxle Nat) : (capped cap).map Prod.fst = Axle.all := by
  simp [capped, List.map_map, Function.comp_def]

theorem capped_ascending (cap : PerAxle Nat) : Ascending (capped cap) := by
  have hall : Axle.all.Pairwise fun i j => i.number < j.number := by decide
  exact List.pairwise_map.mpr hall

theorem capped_sum (cap : PerAxle Nat) : ((capped cap).map Prod.snd).sum = cap.sum := by
  rw [capped, List.map_map, PerAxle.sum_eq]
  rfl

section
variable {target : Nat} {cap : PerAxle Nat} (h : Filled target (capped cap) (fillPasses 7 target (capped cap)))
include h

theorem Filled.waterFill_mem (i : Axle) : (i, (waterFill target cap).get i) ∈ fillPasses 7 target (capped cap) := by
  have hnodup := h.axles.nodup_iff.mpr (capped_ascending cap).nodup
  have hi : i ∈ (fillPasses 7 target (capped cap)).map Prod.fst := by
    rw [h.axles.mem_iff, capped_axles]
    exact Axle.mem_all i
  obtain ⟨⟨j, x⟩, hx, rfl⟩ := List.mem_map.mp hi
  have hgiven : (waterFill target cap).get j = x := by
    rw [waterFill, PerAxle.get_ofFn]
    exact givenTo_of_mem hnodup hx
  rwa [hgiven]

theorem Filled.waterFill_sum : (waterFill target cap).sum = target := by
  have hnodup := h.axles.nodup_iff.mpr (capped_ascending cap).nodup
  have hshares : (fillPasses 7 target (capped cap)).map Prod.snd =
      ((fillPasses 7 target (capped cap)).map Prod.fst).map (waterFill target cap).get := by
    rw [List.map_map]
    refine List.map_congr_left fun u hu => ?_
    exact eq_of_axle hnodup (i := u.1) hu (h.waterFill_mem u.1)
  have hperm := (h.axles.map (waterFill target cap).get).sum_nat
  rw [← hshares, h.sum, capped_axles, ← PerAxle.sum_eq] at hperm
  exact hperm.symm

end

/-- Settles O39: the passes fill the target, and every axle has one share of it. -/
theorem waterFillDivides : Obligations.WaterFillDivides := by
  unfold Obligations.WaterFillDivides
  intro target cap htarget
  have hfilled : Filled target (capped cap) (fillPasses 7 target (capped cap)) :=
    fillPasses_filled 7 target _ (capped_ascending cap) (by simp [capped, Axle.all]) (by rwa [capped_sum])
  exact ⟨hfilled.waterFill_sum, waterFill_le target cap, fun i j hlt =>
    hfilled.close i (cap.get i) _ (List.mem_map_of_mem (Axle.mem_all i)) (hfilled.waterFill_mem i) hlt j _ (hfilled.waterFill_mem j)⟩

end

end Sys2Proof.Machine

/-! SUPPORT. The samples of the truck loops and of the brake pipe watch: the obligations O41 and O42. -/

namespace Sys2Proof.Machine

section
variable {s : State}

/-! ### A truck sample (R58 to R65) -/

section
variable {cfg : ConfigSet} {cv : Conversion} {target : Nat} {c : Correction} {l : TruckLoop}

theorem TruckLoop.sample_unhealthy (h : cv.healthy = false) : l.sample cfg cv target c =
    { l with
      mode := .failsafe, measured := 0, target := target, correction := c, applyTime := 0
      valve := failsafeValve c target } := by
  simp [TruckLoop.sample, TruckLoop.read, TruckLoop.select, h]

theorem TruckLoop.sample_healthy (h : cv.healthy = true) : l.sample cfg cv target c =
    TruckLoop.watch cfg (TruckLoop.countApply l (normalValve cfg c target cv.value)
      { l with
        mode := .normal, measured := cv.value, target := target, correction := c
        valve := normalValve cfg c target cv.value }) := by
  simp [TruckLoop.sample, TruckLoop.read, TruckLoop.select, h]

/-- The apply time and the start pressure (R64). -/
theorem TruckLoop.countApply_eq (before l : TruckLoop) (v : Valve) : TruckLoop.countApply before v l = { l with
    applyTime := if v ≠ .apply ∨ before.valve ≠ .apply ∨ before.mode ≠ .normal then 0 else min (l.applyTime + 10) 3000
    applyStart := if v = .apply ∧ (before.valve ≠ .apply ∨ before.mode ≠ .normal) then l.measured else l.applyStart } := by
  rw [TruckLoop.countApply]
  by_cases hv : v = .apply
  · by_cases hb : before.valve ≠ .apply ∨ before.mode ≠ .normal
    · simp [hv, hb]
    · simp [hv, hb, responseSpan]
  · simp [hv]

/-- The RESPONSE_FAULT flag (R65). -/
theorem TruckLoop.watch_eq (cfg : ConfigSet) (l : TruckLoop) : l.watch cfg = { l with
    responseFault :=
      if l.target ≤ l.measured + cfg.pressureBand ∧ l.measured ≤ l.target + cfg.pressureBand then false
      else l.responseFault
        || decide (l.valve = .apply ∧ l.applyTime = 3000 ∧ l.measured < l.applyStart + 20) } := by
  have hband : withinBand cfg l.target l.measured = true ↔
      l.target ≤ l.measured + cfg.pressureBand ∧ l.measured ≤ l.target + cfg.pressureBand := by simp [withinBand]
  have hrun : (decide (l.valve = .apply) && l.unresponsive) =
      decide (l.valve = .apply ∧ l.applyTime = 3000 ∧ l.measured < l.applyStart + 20) := by
    rw [Bool.decide_and, Bool.decide_and]
    rfl
  rw [TruckLoop.watch, hrun]
  split
  · rw [if_pos (hband.mp ‹_›)]
  · rw [if_neg (mt hband.mpr ‹_›)]
    split <;> simp [*]

/-- What one sample writes, by the health of the conversion (R58 to R65). -/
theorem TruckLoop.sample_fields {after : TruckLoop} (ha : after = l.sample cfg cv target c) :
    after.mode = (if cv.healthy then .normal else .failsafe)
    ∧ after.measured = (if cv.healthy then cv.value else 0)
    ∧ after.target = target ∧ after.correction = c
    ∧ (after.correction = .release → after.valve = .release) ∧ (after.correction = .hold → after.valve = .lap)
    ∧ (after.correction = .none → after.valve =
        (if after.target = 0 then .release
         else if cv.healthy = false then .apply
         else if after.measured + cfg.pressureBand < after.target then .apply
         else if after.target + cfg.pressureBand < after.measured then .release else .lap))
    ∧ after.applyTime = (if cv.healthy = false ∨ after.valve ≠ .apply ∨ l.valve ≠ .apply ∨ l.mode ≠ .normal then 0
        else min (l.applyTime + 10) 3000)
    ∧ after.applyStart = (if cv.healthy = true ∧ after.valve = .apply ∧ (l.valve ≠ .apply ∨ l.mode ≠ .normal)
        then after.measured else l.applyStart)
    ∧ (cv.healthy = false → after.responseFault = l.responseFault)
    ∧ (cv.healthy = true → after.responseFault =
        (if after.target ≤ after.measured + cfg.pressureBand ∧ after.measured ≤ after.target + cfg.pressureBand
         then false
         else l.responseFault
          || decide (after.valve = .apply ∧ after.applyTime = 3000 ∧ after.measured < after.applyStart + 20))) := by
  subst ha
  cases h : cv.healthy with
  | false =>
    rw [TruckLoop.sample_unhealthy h]
    refine ⟨rfl, rfl, rfl, rfl, fun hc => ?_, fun hc => ?_, fun hc => ?_, by simp, by simp, fun _ => rfl, by simp⟩
    · dsimp only at hc ⊢
      rw [hc]
      rfl
    · dsimp only at hc ⊢
      rw [hc]
      rfl
    · dsimp only at hc ⊢
      rw [hc, failsafeValve]
      by_cases h0 : target = 0 <;> simp [h0, Nat.pos_iff_ne_zero]
  | true =>
    rw [TruckLoop.sample_healthy h, TruckLoop.countApply_eq, TruckLoop.watch_eq]
    refine ⟨rfl, rfl, rfl, rfl, fun hc => ?_, fun hc => ?_, fun hc => ?_, by simp, by simp, by simp, fun _ => rfl⟩
    · dsimp only at hc ⊢
      rw [hc]
      rfl
    · dsimp only at hc ⊢
      rw [hc]
      rfl
    · dsimp only at hc ⊢
      rw [hc, normalValve]
      simp

end

/-! ### The functions that carry a valve (R60) -/

section
variable {apply release f : ChanFn} {before after : Valve} {fs : FnStates}

theorem FnStates.get_switch_of_ne {g : ChanFn} {on : Bool} (h : f ≠ g) : (fs.switch g on).get f = fs.get f := by
  cases g <;> cases f <;> first | rfl | exact absurd rfl h

theorem driveValves_same (h : before = after) : driveValves apply release before after fs = fs := if_pos h

theorem driveValves_get_of_ne (ha : f ≠ apply) (hr : f ≠ release) :
    (driveValves apply release before after fs).get f = fs.get f := by
  unfold driveValves
  split
  · rfl
  · split <;> simp only [FnStates.get_switch_of_ne ha, FnStates.get_switch_of_ne hr]

/-- A changed valve state drives both functions of its truck. -/
theorem driveValves_truck {k : Truck} (h : before ≠ after) :
    (driveValves (truckFunctions k).2.1 (truckFunctions k).2.2 before after fs).get (truckFunctions k).2.1
        = decide (after = .apply)
    ∧ (driveValves (truckFunctions k).2.1 (truckFunctions k).2.2 before after fs).get (truckFunctions k).2.2
        = decide (after = .release) := by
  unfold driveValves
  rw [if_neg h]
  cases k <;> cases after <;> exact ⟨rfl, rfl⟩

end

/-- What a truck sample delivers (R61, R63, R65). -/
theorem truckDeliveries_eq (k : Truck) {cv : Conversion} {before after : TruckLoop}
    (hmode : after.mode = if cv.healthy then .normal else .failsafe) :
    truckDeliveries k before after =
      (if cv.healthy = false ∧ before.mode ≠ .failsafe then
          [.transducerHealthChange (truckTransducer k) false, .triggerArrival (.pressureFault (truckTransducer k))]
        else if cv.healthy = true ∧ before.mode ≠ .normal then [.transducerHealthChange (truckTransducer k) true] else [])
      ++ (if after.responseFault = true ∧ before.responseFault = false then [.triggerArrival (.responseFault k)] else []) := by
  rw [truckDeliveries, hmode]
  cases cv.healthy <;> simp

/-- Settles O41: the loop's fields by the health of the conversion, its functions and deliveries by what changed. -/
theorem truckSampleTaken : Obligations.TruckSampleTaken := by
  unfold Obligations.TruckSampleTaken
  intro k loops cv s hpow hcv
  obtain ⟨l, hl⟩ : ∃ l, l = (s.loops.get k).sample s.cfg cv (s.ledger.pressure.get k) (s.slide.trucks.get k).correction := ⟨_, rfl⟩
  have ht : s.truckSample k loops = { s with
      loops := s.loops.set k l
      deliveries := s.deliveries ++ truckDeliveries k (s.loops.get k) l
      matrix := { s.matrix with
        loops := loops
        functions := driveValves (truckFunctions k).2.1 (truckFunctions k).2.2 (s.loops.get k).valve l.valve s.matrix.functions }
      timers := { s.timers with truck := s.timers.truck.set k s.time } } := by rw [hl, hcv]; rfl
  obtain ⟨hmode, hmeasured, htarget, hcorrection, hrelease, hhold, hnone, htime, hstart, hkept, hfault⟩ := TruckLoop.sample_fields hl
  refine ⟨_, l, (powered_on hpow).trans (congrArg _ ht), (PerTruck.get_set_self ..).symm, hmode, hmeasured, htarget, hcorrection,
    hrelease, hhold, hnone, fun hv => driveValves_same hv.symm, fun hv => driveValves_truck (Ne.symm hv),
    fun f ha hr => driveValves_get_of_ne ha hr, htime, hstart, hkept, hfault, ?_, rfl⟩
  rw [truckDeliveries_eq k hmode, List.append_assoc]

/-! ### A sample of the brake pipe watch (R67 to R72) -/

section
variable {cfg : ConfigSet} {cv : Conversion} {w : PipeWatch}

theorem pushReading_eq {h : List Nat} {p : Nat} (hlen : h.length ≤ 50) :
    pushReading h p = (if h.length = 50 then h.drop 1 else h) ++ [p] := by
  rw [pushReading]
  split
  · rw [if_neg (by omega)]
  · have hfull : h.length = 50 := by omega
    rw [if_pos hfull, hfull, List.drop_append_of_le_length (by omega)]

theorem PipeWatch.sample_healthy (h : cv.healthy = true) (hlen : w.history.length ≤ 50) :
    (w.sample cfg cv).mode = .normal ∧ (w.sample cfg cv).fault = false ∧ (w.sample cfg cv).pressure = cv.value
    ∧ (w.sample cfg cv).history = (if w.history.length = 50 then w.history.drop 1 else w.history) ++ [cv.value]
    ∧ (w.present = true → ((w.sample cfg cv).present = true ↔ cv.value < cfg.pipeRecharge))
    ∧ (w.present = false → ((w.sample cfg cv).present = true ↔ cv.value < cfg.pipeEmerLevel
        ∨ ((w.sample cfg cv).history.length = 50
          ∧ (cfg.pipeDropRate : Int) ≤ (((w.sample cfg cv).history.headD 0 : Int) - (cv.value : Int)) * 2))) := by
  have hpush := pushReading_eq (p := cv.value) hlen
  unfold PipeWatch.sample
  rw [if_pos h]
  dsimp only
  cases hp : w.present with
  | true => simp [PipeWatch.evaluate, hpush]
  | false => simp [PipeWatch.evaluate, hpush, pipeEmergency, dropRateOf, or_comm]

theorem PipeWatch.sample_unhealthy (h : cv.healthy = false) :
    (w.sample cfg cv).mode = .failsafe ∧ (w.sample cfg cv).present = w.present
    ∧ (w.mode = .failsafe → w.sample cfg cv = w)
    ∧ (w.mode ≠ .failsafe → (w.sample cfg cv).fault = true ∧ (w.sample cfg cv).pressure = 0
        ∧ (w.sample cfg cv).history = []) := by
  by_cases hm : w.mode = .failsafe <;> simp [PipeWatch.sample, h, hm]

end

section
variable {before after : PipeWatch}

/-- What a healthy reading delivers (R69, R70, R72). -/
theorem pipeDeliveries_normal (h : after.mode = .normal) : pipeDeliveries before after =
    (if before.mode = .normal then [] else [.transducerHealthChange .pipe true])
    ++ (if after.present = true ∧ before.present = false then [.brakePipeConditionBegun] else [])
    ++ (if after.present = false ∧ before.present = true then [.brakePipeConditionCleared] else []) := by
  rw [pipeDeliveries, h, List.append_assoc]
  refine congr (congrArg HAppend.hAppend ?_) ?_
  · by_cases hm : before.mode = .normal <;> simp [hm]
  · cases before.present <;> cases after.present <;> rfl

/-- What an unhealthy reading delivers (R71). -/
theorem pipeDeliveries_failsafe (h : after.mode = .failsafe) (hp : after.present = before.present) :
    pipeDeliveries before after = if before.mode = .failsafe then []
      else [.transducerHealthChange .pipe false, .triggerArrival (.pressureFault .pipe)] := by
  rw [pipeDeliveries, h, hp]
  by_cases hm : before.mode = .failsafe <;> cases before.present <;> simp [hm]

end

/-- Settles O42: the watch's fields by the health of the conversion, and its deliveries by what changed. -/
theorem pipeSampleTaken : Obligations.PipeSampleTaken := by
  unfold Obligations.PipeSampleTaken
  intro loops cv s hpow hcv hlen
  obtain ⟨w, hw⟩ : ∃ w, w = s.watch.sample s.cfg cv := ⟨_, rfl⟩
  have ht : s.pipeSample loops = { s with
      watch := w, deliveries := s.deliveries ++ pipeDeliveries s.watch w
      matrix := { s.matrix with loops := loops }
      timers := { s.timers with pipe := s.time } } := by rw [hw, hcv]; rfl
  refine ⟨_, (powered_on hpow).trans (congrArg _ ht), rfl, fun h => ?_, fun h => ?_⟩
  · obtain ⟨hmode, hfault, hpressure, hhistory, hpresent, hcleared⟩ := PipeWatch.sample_healthy (cfg := s.cfg) (w := s.watch) h hlen
    rw [← hw] at hmode hfault hpressure hhistory hpresent hcleared
    refine ⟨hmode, hfault, hpressure, hhistory, hpresent, hcleared, ?_⟩
    simp only [List.append_assoc]
    refine congrArg (s.deliveries ++ ·) ?_
    rw [pipeDeliveries_normal hmode, List.append_assoc]
  · obtain ⟨hmode, hpresent, hkept, hlost⟩ := PipeWatch.sample_unhealthy (cfg := s.cfg) (w := s.watch) h
    rw [← hw] at hmode hpresent hkept hlost
    dsimp only
    rw [pipeDeliveries_failsafe hmode hpresent]
    refine ⟨hmode, hpresent, fun hm => ⟨hkept hm, ?_⟩, fun hm => ?_⟩
    · rw [if_pos hm, List.append_nil]
    · obtain ⟨hfault, hpressure, hhistory⟩ := hlost hm
      exact ⟨hfault, hpressure, hhistory, by rw [if_neg hm]⟩

end

end Sys2Proof.Machine

/-! SUPPORT. The window of the axle monitor: the obligation O43. -/

namespace Sys2Proof.Machine

section
variable {s : State}

/-! ### The counts and the axle records (R77 to R82, R152) -/

theorem closeCounts_get (xs : Vector PulseInput 8) (ps : Vector PulseChannel 8) (p : Fin 8) :
    (closeCounts xs ps)[p] = (ps[p]).close xs[p] := by simp [closeCounts]

theorem PulseChannel.close_latest (x : PulseInput) (p : PulseChannel) :
    (p.close x).latest = if x.healthy = true then min (p.count + x.edges) 255 else 0 := rfl

section
variable {α : Type} {h : List α} {x : α}

theorem length_pushEight : (pushEight h x).length = min (h.length + 1) 8 := by
  unfold pushEight
  split <;> simp <;> omega

end

section
variable {diameter ppr count : Nat} {channel : Option (Fin 8)} {healthy : Bool} {r : AxleRecord}

theorem AxleRecord.tach_of_ne (h : r.tach ≠ .faulted) : r.tach = .healthy := by
  cases ht : r.tach with
  | faulted => exact absurd ht h
  | healthy => rfl

theorem AxleRecord.window_unhealthy : r.window diameter ppr channel false count = ⟨.faulted, [], 0, [], 0, channel⟩ := rfl

theorem AxleRecord.window_afresh (h : r.tach = .faulted ∨ r.channel ≠ channel) :
    r.window diameter ppr channel true count =
      ⟨.healthy, [count], axleSpeed diameter ppr (pulseSum [count]) 1, [axleSpeed diameter ppr (pulseSum [count]) 1], 0, channel⟩ := by
  rw [AxleRecord.window, if_neg (by simp), if_pos (h.imp_right Ne.symm)]
  rfl

theorem AxleRecord.window_kept (h : r.tach = .healthy) (hc : r.channel = channel) :
    r.window diameter ppr channel true count = r.advance diameter ppr count := by
  rw [AxleRecord.window, if_neg (by simp), if_neg (by simp [h, hc])]

theorem AxleRecord.window_channel : (r.window diameter ppr channel healthy count).channel = channel := by
  cases healthy with
  | false => rfl
  | true =>
    by_cases h : r.tach = .faulted ∨ r.channel ≠ channel
    · rw [AxleRecord.window_afresh h]
    · simp only [not_or, Decidable.not_not] at h
      rw [← h.2, AxleRecord.window_kept (AxleRecord.tach_of_ne h.1) rfl]
      rfl

/-- A HEALTHY record has the speed of its pulse history (R79). -/
theorem AxleRecord.window_speed : (r.window diameter ppr channel true count).speed =
    axleSpeed diameter ppr (pulseSum (r.window diameter ppr channel true count).pulses)
      (r.window diameter ppr channel true count).pulses.length := by
  by_cases h : r.tach = .faulted ∨ r.channel ≠ channel
  · rw [AxleRecord.window_afresh h]
    rfl
  · simp only [not_or, Decidable.not_not] at h
    rw [AxleRecord.window_kept (AxleRecord.tach_of_ne h.1) h.2]
    rfl

end

section
variable {cfg : ConfigSet} {m : Matrix} {axles : PerAxle AxleRecord} {i : Axle} {p : Fin 8}

theorem windowAxles_none (h : tachChannel m.table i = none) :
    (windowAxles cfg m axles).get i = ⟨.faulted, [], 0, [], 0, none⟩ := by
  simp [windowAxles, tachReading, h, AxleRecord.window_unhealthy]

theorem windowAxles_some (h : tachChannel m.table i = some p) : (windowAxles cfg m axles).get i =
    (axles.get i).window (cfg.wheelDiameter.get i) cfg.tachPpr (some p) (m.pulses[p]).healthy (m.pulses[p]).latest := by
  simp [windowAxles, tachReading, h]

end

/-! ### The reference speed (R83) -/

/-- The faster of the records taken so far and a record, where that is HEALTHY (R83). -/
def fasterHealthy (best : Option Nat) (r : AxleRecord) : Option Nat :=
  if r.tach = .healthy then some (max (best.getD 0) r.speed) else best

theorem foldl_fasterHealthy_none {l : List AxleRecord} (best : Option Nat) (h : ∀ r ∈ l, r.tach ≠ .healthy) :
    l.foldl fasterHealthy best = best := by
  induction l generalizing best with
  | nil => rfl
  | cons r l ih =>
    rw [List.foldl_cons, fasterHealthy, if_neg (h r List.mem_cons_self)]
    exact ih best fun x hx => h x (List.mem_cons_of_mem r hx)

theorem foldl_fasterHealthy {l : List AxleRecord} {best : Option Nat} {v : Nat}
    (hv : best = some v ∨ ∃ r ∈ l, r.tach = .healthy ∧ r.speed = v) (hbest : best.getD 0 ≤ v)
    (hall : ∀ r ∈ l, r.tach = .healthy → r.speed ≤ v) : l.foldl fasterHealthy best = some v := by
  induction l generalizing best with
  | nil => exact hv.resolve_right fun ⟨r, hr, _⟩ => absurd hr List.not_mem_nil
  | cons r l ih =>
    have hrest : ∀ x ∈ l, x.tach = .healthy → x.speed ≤ v := fun x hx => hall x (List.mem_cons_of_mem r hx)
    rw [List.foldl_cons, fasterHealthy]
    split
    · rename_i hr
      have hle := hall r List.mem_cons_self hr
      refine ih ?_ (Nat.max_le.mpr ⟨hbest, hle⟩) hrest
      rcases hv with rfl | ⟨x, hx, hxt, hxv⟩
      · exact .inl (congrArg some (Nat.max_eq_left hle))
      · rcases List.mem_cons.mp hx with rfl | hx
        · exact .inl (congrArg some (hxv ▸ Nat.max_eq_right (hxv ▸ hbest)))
        · exact .inr ⟨x, hx, hxt, hxv⟩
    · rename_i hr
      refine ih (hv.imp_right fun ⟨x, hx, hxt, hxv⟩ => ⟨x, ?_, hxt, hxv⟩) hbest hrest
      exact (List.mem_cons.mp hx).resolve_left fun he => hr (he ▸ hxt)

section
variable {axles : PerAxle AxleRecord}

theorem PerAxle.mem_toList_iff {α : Type} {v : PerAxle α} {x : α} : x ∈ v.toList ↔ ∃ i, v.get i = x := by
  have hlist : v.toList = Axle.all.map v.get := rfl
  rw [hlist, List.mem_map]
  exact ⟨fun ⟨i, _, hi⟩ => ⟨i, hi⟩, fun ⟨i, hi⟩ => ⟨i, Axle.mem_all i, hi⟩⟩

theorem highestSpeed_none (h : ∀ i, (axles.get i).tach = .faulted) : highestSpeed axles = none :=
  foldl_fasterHealthy_none none fun r hr => by
    obtain ⟨i, rfl⟩ := PerAxle.mem_toList_iff.mp hr
    rw [h i]
    simp

theorem highestSpeed_some {i : Axle} (h : (axles.get i).tach = .healthy)
    (hall : ∀ j, (axles.get j).tach = .healthy → (axles.get j).speed ≤ (axles.get i).speed) :
    highestSpeed axles = some (axles.get i).speed :=
  foldl_fasterHealthy (.inr ⟨_, PerAxle.mem_toList_iff.mpr ⟨i, rfl⟩, h, rfl⟩) (Nat.zero_le _) fun r hr => by
    obtain ⟨j, rfl⟩ := PerAxle.mem_toList_iff.mp hr
    exact hall j

end

/-- What the window makes of the reference, by the axle records that it leaves (R83 to R86). -/
theorem Monitor.conclude_fields (cfg : ConfigSet) (m : Monitor) :
    (m.conclude cfg).axles = m.axles
    ∧ (m.conclude cfg).degraded = (highestSpeed m.axles).isNone
    ∧ (m.conclude cfg).fine = fineReference cfg (highestSpeed m.axles) m.fine
    ∧ (m.conclude cfg).reported = (m.conclude cfg).fine / 100
    ∧ (m.conclude cfg).standstillTimer = standstillTime (m.conclude cfg).reported m.standstillTimer
    ∧ (m.conclude cfg).standstill = standstillNow (m.conclude cfg).reported (m.conclude cfg).standstillTimer m.standstill
    ∧ (m.conclude cfg).accumulator = (m.accumulator + (m.conclude cfg).fine) % 360000
    ∧ (m.conclude cfg).distance = m.distance + BitVec.ofNat 32 ((m.accumulator + (m.conclude cfg).fine) / 360000) :=
  ⟨rfl, rfl, rfl, rfl, rfl, rfl, rfl, rfl⟩

/-! ### What a window hands on (R81, R87) -/

theorem windowDeliveries_eq (before after : Monitor) : windowDeliveries before after =
    (([.a1, .a2, .a3, .a4, .a5, .a6] : List Axle).filter fun i =>
      decide ((before.axles.get i).tach = .healthy ∧ (after.axles.get i).tach = .faulted)).map
      (fun i => Instr.triggerArrival (.tachFault i))
    ++ [.slideWindow (completionOf before after)]
    ++ (if before.standstill = after.standstill then [] else [.standstillChange after.standstill]) := by
  rw [windowDeliveries, ← filterMap_if]
  simp only [decide_eq_true_eq]
  rfl

/-- How many windows back a record's speeds reach: as far as before, where it was kept (R87). -/
theorem AxleRecord.held_eq (r : AxleRecord) (diameter ppr count : Nat) (p : Fin 8) (healthy : Bool) :
    (if (r.window diameter ppr (some p) healthy count).speeds.length ≤ 1 then 0 else r.speeds.length) =
      if healthy = true ∧ r.tach = .healthy ∧ r.channel = some p then r.speeds.length else 0 := by
  cases healthy with
  | false => simp [AxleRecord.window_unhealthy]
  | true =>
    by_cases h : r.tach = .faulted ∨ r.channel ≠ some p
    · rw [AxleRecord.window_afresh h, if_pos (by simp), if_neg]
      rintro ⟨-, htach, hch⟩
      rcases h with h | h
      · rw [htach] at h
        cases h
      · exact h hch
    · simp only [not_or, Decidable.not_not] at h
      have htach := AxleRecord.tach_of_ne h.1
      have hcond : true = true ∧ r.tach = .healthy ∧ r.channel = some p := ⟨rfl, htach, h.2⟩
      rw [AxleRecord.window_kept htach h.2, if_pos hcond]
      have hlen : (r.advance diameter ppr count).speeds.length = min (r.speeds.length + 1) 8 := length_pushEight
      rw [hlen]
      split <;> omega

/-- Settles O43: the counts close, the records go by the health of their channels, and the reference, standstill and distance by the records. -/
theorem axleWindowTaken : Obligations.AxleWindowTaken := by
  unfold Obligations.AxleWindowTaken
  intro pulses s hpow
  obtain ⟨m, hm⟩ : ∃ m, m = closeCounts pulses s.matrix.pulses := ⟨_, rfl⟩
  obtain ⟨after, hafter⟩ : ∃ after, after = Monitor.conclude s.cfg
    { s.monitor with axles := windowAxles s.cfg { s.matrix with pulses := m } s.monitor.axles } := ⟨_, rfl⟩
  have hcount : ∀ p : Fin 8, m[p] = (s.matrix.pulses[p]).close pulses[p] := fun p => by rw [hm, closeCounts_get]
  have ht : s.axleWindow pulses = { s with
      monitor := after, deliveries := s.deliveries ++ windowDeliveries s.monitor after
      matrix := { s.matrix with pulses := m }
      timers := { s.timers with window := s.time } } := by rw [hafter, hm]; rfl
  obtain ⟨haxles, hdegraded, hfine, hreported, htimer, hstill, hacc, hdist⟩ := Monitor.conclude_fields s.cfg
    { s.monitor with axles := windowAxles s.cfg { s.matrix with pulses := m } s.monitor.axles }
  rw [← hafter] at haxles hdegraded hfine hreported htimer hstill hacc hdist
  dsimp only at haxles hdegraded hfine
  have hnone : ∀ i, tachChannel s.matrix.table i = none → after.axles.get i = ⟨.faulted, [], 0, [], 0, none⟩ := fun i hi => by
    rw [haxles]
    exact windowAxles_none hi
  have hrec : ∀ i p, tachChannel s.matrix.table i = some p → after.axles.get i =
      (s.monitor.axles.get i).window (s.store.live.wheelDiameter.get i) s.store.live.tachPpr (some p)
        (pulses[p]).healthy (m[p]).latest := fun i p hi => by
    have hhealth : (m[p]).healthy = (pulses[p]).healthy := by rw [hcount]; rfl
    rw [haxles, ← hhealth]
    exact windowAxles_some hi
  rw [← haxles] at hdegraded hfine
  refine ⟨_, (powered_on hpow).trans (congrArg _ ht), rfl, fun p => ?_, hnone, fun i p hi => ?_, fun hall => ?_,
    fun i hi hall => ?_, hreported, htimer, hstill, hacc, hdist, completionOf s.monitor after, ?_, rfl, fun i => ?_⟩
  · dsimp only
    rw [hcount p]
    exact ⟨rfl, rfl, rfl, rfl⟩
  · dsimp only
    refine ⟨?_, fun hbad => ?_, fun hok hnew => ?_, fun hok htach hch => ?_, fun hok => ?_⟩
    · rw [hrec i p hi, AxleRecord.window_channel]
    · rw [hrec i p hi, hbad, AxleRecord.window_unhealthy]
    · rw [hrec i p hi, hok, AxleRecord.window_afresh hnew]
    · rw [hrec i p hi, hok, AxleRecord.window_kept htach hch]
      exact ⟨htach, rfl, rfl, rfl⟩
    · have hspeed : (after.axles.get i).speed = axleSpeed (s.store.live.wheelDiameter.get i) s.store.live.tachPpr
          (pulseSum (after.axles.get i).pulses) (after.axles.get i).pulses.length := by
        rw [hrec i p hi, hok]
        exact AxleRecord.window_speed
      rw [hspeed, axleSpeed, Nat.min_comm]
      rfl
  · rw [highestSpeed_none hall] at hdegraded hfine
    exact ⟨hdegraded, hfine⟩
  · rw [highestSpeed_some hi hall] at hdegraded hfine
    exact ⟨hdegraded, hfine⟩
  · dsimp only
    rw [windowDeliveries_eq]
    simp only [List.append_assoc]
  · have hc : (completionOf s.monitor after).axles.get i =
        ⟨(after.axles.get i).tach, (after.axles.get i).speed, (after.axles.get i).decel,
          if (after.axles.get i).speeds.length ≤ 1 then 0 else (s.monitor.axles.get i).speeds.length⟩ := PerAxle.get_ofFn ..
    rw [hc]
    refine ⟨rfl, rfl, rfl, fun hi => ?_, fun p hi => ?_⟩
    · dsimp only
      rw [hnone i hi]
      rfl
    · dsimp only
      rw [hrec i p hi]
      exact AxleRecord.held_eq ..

end

end Sys2Proof.Machine

/-! SUPPORT. The slide controller's window and its event at S8's leaving IDLE: the obligations O44 and O46. -/

namespace Sys2Proof.Machine

section
variable {s : State}

/-! ### One axle of a slide window (R92 to R97) -/

section
variable {cfg : ConfigSet} {reference force : Nat} {x : AxleResult} {r : AxleSlide}

theorem AxleSlide.window_unhealthy (h : x.tach = .faulted) : r.window cfg reference x force = r.toFaulted cfg :=
  if_pos h

/-- What a window sees of an axle with a HEALTHY tachometer: its creep and its deceleration (R92, R93). -/
def AxleSlide.seen (reference : Nat) (x : AxleResult) (r : AxleSlide) : AxleSlide :=
  { r with creep := creepOf reference x.speed, decel := x.decel }

theorem AxleSlide.window_healthy (h : x.tach = .healthy) : r.window cfg reference x force =
    if r.state = .faulted then (r.seen reference x).fromFaulted cfg
    else if reference < cfg.slideMinSpeed then (r.seen reference x).belowMinSpeed cfg
    else if r.state = .adhering ∧ x.held < 8 then r.seen reference x
    else (r.seen reference x).judge cfg force := by
  rw [AxleSlide.window, if_neg (by simp [h])]
  rfl

/-- R95: an open episode ends with its budget reloaded, whatever the override that ends it. -/
theorem AxleSlide.endIfOpen_eq : r.endIfOpen cfg =
    { r with episode := false, budget := if r.episode then cfg.correctionBudget else r.budget } := by
  obtain ⟨state, creep, decel, suspect, lim, budget, episode, quiet⟩ := r
  cases episode <;> rfl

theorem AxleSlide.toFaulted_eq : r.toFaulted cfg =
    { r with
      state := .faulted, creep := 0, decel := 0, lim := 1000, suspect := 0, quiet := 0, episode := false
      budget := if r.episode then cfg.correctionBudget else r.budget } := by
  rw [AxleSlide.toFaulted, AxleSlide.endIfOpen_eq]
  rfl

theorem AxleSlide.belowMinSpeed_eq : r.belowMinSpeed cfg =
    { r with
      state := .adhering, lim := 1000, suspect := 0, quiet := 0, episode := false
      budget := if r.episode then cfg.correctionBudget else r.budget } := by
  rw [AxleSlide.belowMinSpeed, AxleSlide.endIfOpen_eq]
  rfl

end

/-- The state machine of section 5.4 writes neither creep nor deceleration. -/
theorem AxleSlide.judge_seen (cfg : ConfigSet) (force : Nat) (r : AxleSlide) :
    (r.judge cfg force).creep = r.creep ∧ (r.judge cfg force).decel = r.decel := by
  have henter : (r.enter cfg force).creep = r.creep ∧ (r.enter cfg force).decel = r.decel := by
    rw [AxleSlide.enter_eq]
    split <;> exact ⟨rfl, rfl⟩
  unfold AxleSlide.judge
  split
  case h_1 =>
    unfold AxleSlide.adhering
    repeat' split
    all_goals exact ⟨rfl, rfl⟩
  case h_2 =>
    by_cases hslide : cfg.creepSlide ≤ r.creep ∨ (cfg.decelSlide : Int) ≤ r.decel
    · rw [AxleSlide.suspected_of_slide hslide]
      exact henter
    by_cases hclear : r.creep < cfg.creepWarn ∧ r.decel < (cfg.decelWarn : Int)
    · rw [AxleSlide.suspected_of_cleared hslide hclear]
      exact ⟨rfl, rfl⟩
    · rw [AxleSlide.suspected_of_counted hslide hclear]
      split
      · exact henter
      · exact ⟨rfl, rfl⟩
  case h_3 =>
    unfold AxleSlide.sliding
    split <;> exact ⟨rfl, rfl⟩
  case h_4 =>
    simp only [AxleSlide.recovering]
    split
    · exact henter
    · split <;> exact ⟨rfl, rfl⟩
  case h_5 =>
    unfold AxleSlide.persisting
    repeat' split
    all_goals exact ⟨rfl, rfl⟩
  case h_6 => exact ⟨rfl, rfl⟩

section
variable {cfg : ConfigSet} {reference force : Nat} {x : AxleResult} {r : AxleSlide}

theorem AxleSlide.window_seen (h : x.tach = .healthy) :
    (r.window cfg reference x force).decel = x.decel
    ∧ (r.window cfg reference x force).creep = creepOf reference x.speed := by
  rw [AxleSlide.window_healthy h]
  split
  · exact ⟨rfl, rfl⟩
  split
  · rw [AxleSlide.belowMinSpeed_eq]
    exact ⟨rfl, rfl⟩
  split
  · exact ⟨rfl, rfl⟩
  · exact (AxleSlide.judge_seen ..).symm

end

/-! ### Sanding (R112, R113) -/

/-- An element at each of two places of a list without repetitions fills the length of two. -/
theorem two_le_length_filter {α : Type} {l : List α} {p : α → Bool} (hl : l.Nodup) :
    2 ≤ (l.filter p).length ↔ ∃ i ∈ l, ∃ j ∈ l, i ≠ j ∧ p i = true ∧ p j = true := by
  have hnodup := hl.filter p
  constructor
  · intro h
    match hf : l.filter p with
    | [] | [_] => simp [hf] at h
    | i :: j :: rest =>
      have hi : i ∈ l.filter p := by simp [hf]
      have hj : j ∈ l.filter p := by simp [hf]
      rw [hf] at hnodup
      have hne : i ≠ j := by
        rintro rfl
        simp at hnodup
      obtain ⟨hil, hpi⟩ := List.mem_filter.mp hi
      obtain ⟨hjl, hpj⟩ := List.mem_filter.mp hj
      exact ⟨i, hil, j, hjl, hne, hpi, hpj⟩
  · rintro ⟨i, hi, j, hj, hne, hpi, hpj⟩
    have hsub : [i, j] ⊆ l.filter p := by
      simp [List.mem_filter, hi, hj, hpi, hpj]
    exact List.Nodup.length_le_of_subset (by simpa using hne) hsub

theorem sandRequest_iff (cfg : ConfigSet) (reference : Nat) (d : Direction) (axles : PerAxle AxleSlide) :
    sandRequest cfg reference d axles = true ↔
      ((∃ i, (axles.get i).state = .persistent)
        ∨ (∃ i j, i ≠ j ∧ (axles.get i).state = .sliding ∧ (axles.get j).state = .sliding))
      ∧ cfg.sandMinSpeed ≤ reference ∧ d ≠ .neutral := by
  have hlist : axles.toList = Axle.all.map axles.get := rfl
  have hpersistent : axles.toList.any (fun r => r.state = .persistent) = true ↔ ∃ i, (axles.get i).state = .persistent := by
    rw [hlist, List.any_map, List.any_eq_true]
    simp [Axle.mem_all]
  have hsliding : 2 ≤ (axles.toList.filter fun r => r.state = .sliding).length ↔
      ∃ i j, i ≠ j ∧ (axles.get i).state = .sliding ∧ (axles.get j).state = .sliding := by
    rw [hlist, List.filter_map, List.length_map, two_le_length_filter (by decide)]
    simp [Axle.mem_all]
  rw [sandRequest]
  simp only [Bool.and_eq_true, Bool.or_eq_true, hpersistent, decide_eq_true_eq, hsliding, and_assoc]

section
variable {cfg : ConfigSet} {d : Direction} {o : Sand}

theorem Sand.window_request (q : Bool) : (o.window cfg q d).request = q := by
  unfold Sand.window
  split
  case h_4 => split <;> rfl
  all_goals rfl

theorem sandFor_eq : sandFor d = if d = .reverse then .rev else .fwd := by cases d <;> rfl

theorem Sand.window_wanted : (o.window cfg true d).output = (if d = .reverse then .rev else .fwd)
    ∧ (o.window cfg true d).onTime = if o.output = .off then 0 else min (o.onTime + 10) cfg.sandMinOnMs := by
  rw [← sandFor_eq]
  obtain ⟨request, output, onTime⟩ := o
  cases output <;> exact ⟨rfl, rfl⟩

theorem Sand.window_unwanted_on (h : o.output ≠ .off) : o.window cfg false d =
    if o.onTime = cfg.sandMinOnMs then ⟨false, .off, o.onTime⟩
    else ⟨false, o.output, min (o.onTime + 10) cfg.sandMinOnMs⟩ := by
  obtain ⟨request, output, onTime⟩ := o
  cases output with
  | off => exact absurd rfl h
  | fwd | rev => rfl

theorem Sand.window_unwanted_off (h : o.output = .off) : o.window cfg false d = { o with request := false } := by
  obtain ⟨request, output, onTime⟩ := o
  cases output with
  | off => rfl
  | fwd | rev => cases h

/-- R113: a change of the output leaves on the one function that it names, and switches no other function. -/
theorem driveSand_of_ne {before after : SandOutput} {fs : FnStates} (h : before ≠ after) : driveSand before after fs =
    { fs with sandFwd := decide (after = .fwd), sandRev := decide (after = .rev) } := by
  unfold driveSand
  rw [if_neg h]
  cases after <;> rfl

theorem driveSand_self {o : SandOutput} {fs : FnStates} : driveSand o o fs = fs := if_pos rfl

end

/-! ### What a window delivers (R104, R105) -/

theorem slideDeliveries_eq (cmd : PerAxle Nat) (before after : PerAxle AxleSlide) : slideDeliveries cmd before after =
    (([.a1, .a2, .a3, .a4, .a5, .a6] : List Axle).filter fun i =>
      decide ((after.get i).lim < (before.get i).lim ∧ (after.get i).lim < cmd.get i)).map Instr.clipRequest
    ++ (([.a1, .a2, .a3, .a4, .a5, .a6] : List Axle).filter fun i =>
      decide ((after.get i).state = .persistent ∧ (before.get i).state ≠ .persistent)).map
      (fun i => Instr.triggerArrival (.persistentSlide i)) := by
  rw [slideDeliveries, ← filterMap_if, ← filterMap_if]
  simp only [decide_eq_true_eq]
  rfl

/-- Settles O44: each axle by the conditions of section 5.3, each truck and the sand record by the axles that the window leaves. -/
theorem slideWindowTaken : Obligations.SlideWindowTaken := by
  unfold Obligations.SlideWindowTaken
  intro c s hpow
  obtain ⟨after, hafter⟩ : ∃ after, after = s.slide.window s.store.live s.arbiter.record s.ledger c := ⟨_, rfl⟩
  have ht : State.slideWindow c { s with deliveries := s.deliveries.erase (.slideWindow c) } = { s with
      slide := after
      deliveries := s.deliveries.erase (.slideWindow c) ++ slideDeliveries s.ledger.cmd s.slide.axles after.axles
      matrix := { s.matrix with
        functions := driveSand s.slide.sand.output after.sand.output s.matrix.functions } } := by
    rw [hafter]
    rfl
  have haxle : ∀ i, after.axles.get i = (s.slide.axles.get i).window s.store.live c.reference (c.axles.get i)
      (s.ledger.ach.get i + s.ledger.truckForce.get i.truck / 3) := fun i => by
    rw [hafter]
    exact PerAxle.get_ofFn ..
  have htruck : after.trucks = slideTrucks s.store.live s.arbiter.record.emergency s.ledger after.axles s.slide.trucks := by
    rw [hafter]
    rfl
  obtain ⟨request, hrequest⟩ : ∃ q, q = sandRequest s.store.live c.reference s.arbiter.record.direction after.axles :=
    ⟨_, rfl⟩
  have hsand : after.sand = s.slide.sand.window s.store.live request s.arbiter.record.direction := by
    rw [hrequest, hafter]
    rfl
  have hreq : after.sand.request = request := by rw [hsand, Sand.window_request]
  refine ⟨_, (delivered_on hpow).trans (congrArg _ ht), ?_, by rw [hafter]; rfl, fun i => ⟨fun hi => ?_, fun hi => ?_⟩, ?_,
    fun k => ?_, ?_, fun hq => ?_, fun hq ho => ?_, fun hq ho => ?_, fun hne => ?_, fun heq => ?_⟩ <;> dsimp only
  · by_cases h : s.slide.sand.output = after.sand.output
    · rw [← h, driveSand_self]
    · rw [driveSand_of_ne h]
  · rw [haxle, AxleSlide.window_unhealthy hi, AxleSlide.toFaulted_eq]
  · have hseen := AxleSlide.window_seen (cfg := s.store.live) (reference := c.reference) (r := s.slide.axles.get i)
      (force := s.ledger.ach.get i + s.ledger.truckForce.get i.truck / 3) hi
    rw [← haxle] at hseen
    obtain ⟨hdecel, hcreep⟩ := hseen
    refine ⟨hdecel, hcreep, ?_⟩
    rw [hcreep, haxle, AxleSlide.window_healthy hi]
    refine ⟨fun hf => ?_, fun hf hmin => ?_, fun ha hmin hheld => ?_, fun hf hmin hrest => ?_⟩
    · rw [if_pos hf]
      rfl
    · rw [if_neg hf, if_pos hmin, AxleSlide.belowMinSpeed_eq]
      rfl
    · rw [if_neg (by simp [ha]), if_neg (Nat.not_lt_of_le hmin), if_pos ⟨ha, hheld⟩]
      rfl
    · rw [if_neg hf, if_neg (Nat.not_lt_of_le hmin), if_neg fun ⟨ha, hheld⟩ =>
        hrest.elim (fun h => h ha) fun h => absurd hheld (Nat.not_lt_of_le h)]
      rfl
  · rw [slideDeliveries_eq, List.append_assoc]
  · rw [htruck]
    exact PerTruck.get_ofFn ..
  · rw [hreq, hrequest]
    exact sandRequest_iff ..
  · rw [hreq] at hq
    rw [hsand, hq]
    exact Sand.window_wanted
  · rw [hreq] at hq
    rw [hsand, hq, Sand.window_unwanted_on ho]
    refine ⟨fun h => ?_, fun h => ?_, fun h => ?_⟩
    · rw [if_pos h]
      exact ⟨rfl, rfl⟩
    · rw [if_neg (Nat.ne_of_lt h)]
      exact ⟨rfl, rfl⟩
    · rw [if_neg (Nat.ne_of_gt h)]
      exact ⟨rfl, Nat.min_eq_right (Nat.le_add_right_of_le (Nat.le_of_lt h))⟩
  · rw [hreq] at hq
    rw [hsand, hq, Sand.window_unwanted_off ho]
    exact ⟨ho, rfl⟩
  · rw [driveSand_of_ne (Ne.symm hne)]
    exact ⟨rfl, rfl⟩
  · rw [heq, driveSand_self]

/-! ### The corrections of a truck (R107 to R110) -/

section
variable {cfg : ConfigSet} {emergency : Bool} {target : Nat} {runs sliding recovering : Bool} {r : TruckSlide}

/-- The rows of R108, by the release time and the exhaustion that the spell of correction has. -/
theorem TruckSlide.window_eq : r.window cfg emergency target runs sliding recovering =
    if (runs && r.exhausted) = true then ⟨.none, if runs then r.release else 0, true⟩
    else if sliding = true ∧ 0 < target then
      if (if runs then r.release else 0) + 10 ≤ (if emergency then cfg.emerReleaseMs else cfg.maxReleaseMs) then
        ⟨.release, (if runs then r.release else 0) + 10, false⟩
      else ⟨.none, if runs then r.release else 0, true⟩
    else ⟨if recovering then .hold else .none, if runs then r.release else 0, false⟩ := by
  obtain ⟨correction, release, exhausted⟩ := r
  cases runs <;> cases exhausted <;> cases recovering <;> simp [TruckSlide.window, releaseLimit]

theorem TruckSlide.onEmergency_eq : r.onEmergency cfg =
    if cfg.emerReleaseMs < r.release + 10 then ⟨.none, r.release, true⟩ else r := rfl

end

/-- Settles O46: the window by its rows, and the event by the release time of each truck. -/
theorem truckCorrections : Obligations.TruckCorrections := by
  unfold Obligations.TruckCorrections
  refine ⟨fun cfg emergency target runs sliding recovering r w release limit spent hw hrelease hspent hlimit => ?_,
    fun s hpow => ⟨_, delivered_on hpow, rfl, fun k => ?_⟩⟩
  · rw [TruckSlide.window_eq, ← hrelease, ← hspent, ← hlimit] at hw
    refine ⟨fun h => ?_, fun h hs ht hl => ?_, fun h hs ht hl => ?_, fun h hno => ?_, fun h => ?_⟩
    · rw [hw, if_pos h]
    · rw [hw, if_neg (by simp [h]), if_pos ⟨hs, ht⟩, if_pos hl]
    · rw [hw, if_neg (by simp [h]), if_pos ⟨hs, ht⟩, if_neg (Nat.not_le_of_lt hl)]
    · rw [hw, if_neg (by simp [h]), if_neg]
      rintro ⟨hs, ht⟩
      rcases hno with hno | hno
      · exact absurd hs (by simp [hno])
      · exact absurd hno (Nat.ne_of_gt ht)
    · have hle : release ≤ r.release := by
        rw [hrelease]
        split <;> omega
      rw [hw] at h ⊢
      split at h
      case isTrue => exact absurd h (Nat.not_lt_of_le hle)
      split at h
      case isFalse => exact absurd h (Nat.not_lt_of_le hle)
      split at h
      case isFalse => exact absurd h (Nat.not_lt_of_le hle)
      case isTrue =>
        rw [if_neg ‹_›, if_pos ‹_›, if_pos ‹_›]
        assumption
  · exact (PerTruck.get_ofFn ..).trans TruckSlide.onEmergency_eq

end

end Sys2Proof.Machine

/-! SUPPORT. The arrival of a trigger and a driver's health change: the obligations O48 and O49. -/

namespace Sys2Proof.Machine

section
variable {s : State}

/-! ### The place of an arriving trigger (R125) -/

section
variable {bs : Vector Buffer 2} {b : Fin 2} {st : BufferState}

theorem bufferIn_eq_none (h : ∀ c : Fin 2, (bs[c]).state ≠ st) : bufferIn bs st = none := by
  rw [bufferIn, List.find?_eq_none]
  intro c _ hc
  exact h c (of_decide_eq_true hc)

theorem bufferIn_eq_some (h : (bs[b]).state = st) (hlow : ∀ c : Fin 2, (bs[c]).state = st → b.val ≤ c.val) :
    bufferIn bs st = some b := by
  have hb : b = 0 ∨ b = 1 := by omega
  rcases hb with rfl | rfl
  · exact List.find?_cons_of_pos (decide_eq_true h)
  · have h0 : (bs[(0 : Fin 2)]).state ≠ st := fun h0 => absurd (hlow 0 h0) (by decide)
    exact (List.find?_cons_of_neg (by simpa using h0)).trans (List.find?_cons_of_pos (decide_eq_true h))

theorem newestAwaiting_eq_some (h : (bs[b]).state = .awaitingSeal)
    (hnew : ∀ c : Fin 2, c ≠ b → (bs[c]).state = .sealing
      ∨ (bs[c]).state = .awaitingSeal ∧ (bs[c]).sequence < (bs[b]).sequence) : newestAwaiting bs = some b := by
  have hb : b = 0 ∨ b = 1 := by omega
  rcases hb with rfl | rfl
  · have h0 : (bs[0]).state = .awaitingSeal := h
    rcases hnew 1 (by decide) with h1 | ⟨h1, hseq⟩
    · change (bs[1]).state = .sealing at h1
      simp [newestAwaiting, awaitingBy, h0, h1]
    · change (bs[1]).state = .awaitingSeal at h1
      change (bs[1]).sequence < (bs[0]).sequence at hseq
      simp [newestAwaiting, awaitingBy, h0, h1, hseq]
  · have h1 : (bs[1]).state = .awaitingSeal := h
    rcases hnew 0 (by decide) with h0 | ⟨h0, hseq⟩
    · change (bs[0]).state = .sealing at h0
      simp [newestAwaiting, awaitingBy, h0, h1]
    · change (bs[0]).state = .awaitingSeal at h0
      change (bs[0]).sequence < (bs[1]).sequence at hseq
      simp [newestAwaiting, awaitingBy, h0, h1, Nat.not_lt_of_gt hseq]

theorem arrivalPlace_capturing (h : (bs[b]).state = .capturing) (hlow : ∀ c : Fin 2, c ≠ b → (bs[c]).state ≠ .capturing) :
    arrivalPlace bs = .join b := by
  have hb : bufferIn bs .capturing = some b := bufferIn_eq_some h fun c hc => by
    by_cases heq : c = b
    · exact Nat.le_of_eq (congrArg Fin.val heq.symm)
    · exact absurd hc (hlow c heq)
  rw [arrivalPlace, hb]

theorem arrivalPlace_free (hcap : ∀ c : Fin 2, (bs[c]).state ≠ .capturing) (h : (bs[b]).state = .free)
    (hlow : ∀ c : Fin 2, (bs[c]).state = .free → b.val ≤ c.val) : arrivalPlace bs = .opens b := by
  rw [arrivalPlace, bufferIn_eq_none hcap, bufferIn_eq_some h hlow]

theorem arrivalPlace_awaiting (h : (bs[b]).state = .awaitingSeal)
    (hnew : ∀ c : Fin 2, c ≠ b → (bs[c]).state = .sealing
      ∨ (bs[c]).state = .awaitingSeal ∧ (bs[c]).sequence < (bs[b]).sequence) : arrivalPlace bs = .join b := by
  have hno (st : BufferState) (h1 : st ≠ .awaitingSeal) (h2 : st ≠ .sealing) (c : Fin 2) : (bs[c]).state ≠ st := by
    by_cases hc : c = b
    · rw [hc, h]
      exact h1.symm
    · rcases hnew c hc with hs | ⟨hs, _⟩ <;> rw [hs]
      · exact h2.symm
      · exact h1.symm
  rw [arrivalPlace, bufferIn_eq_none (hno .capturing (by decide) (by decide)),
    bufferIn_eq_none (hno .free (by decide) (by decide)), newestAwaiting_eq_some h hnew]

end

/-- R128: a full trigger list counts the trigger, and any other takes it. -/
theorem Buffer.join_eq (tr : Trigger) (b : Buffer) : b.join tr = { b with
    entries := b.entries ++ (if b.entries.length < 6 then [⟨tr, b.position, b.state = .awaitingSeal⟩] else [])
    further := if b.entries.length < 6 then b.further else min (b.further + 1) 65535 } := by
  unfold Buffer.join
  split
  · rfl
  · rw [List.append_nil]
    rfl

/-- What an arrival does to the recorder once its place is known (R125). -/
theorem Recorder.arrive_join {r : Recorder} {b : Fin 2} (h : arrivalPlace r.buffers = .join b) (cfg : ConfigSet) (now : Nat)
    (distance number : Word32) (draw : Nat) (tr : Trigger) :
    r.arrive cfg now distance number draw tr = { r with buffers := r.buffers.set b ((r.buffers[b]).join tr) } := by
  rw [Recorder.arrive, h]
  rfl

theorem Recorder.arrive_opens {r : Recorder} {b : Fin 2} (h : arrivalPlace r.buffers = .opens b) (cfg : ConfigSet)
    (now : Nat) (distance number : Word32) (draw : Nat) (tr : Trigger) :
    r.arrive cfg now distance number draw tr = { r with
      buffers := r.buffers.set b (Buffer.open cfg now distance number r.nextSequence r.ring tr)
      nextSequence := sequenceAfter draw r.nextSequence } := by
  rw [Recorder.arrive, h]
  rfl

/-- Settles O48: the recorder's arrival at the place that R125 gives. -/
theorem triggerArrives : Obligations.TriggerArrives := by
  unfold Obligations.TriggerArrives
  intro tr s hpow
  refine ⟨_, delivered_on hpow, rfl, fun b late hplace => ?_, fun b hcap hfree hlow => ?_⟩
  · have hjoin : arrivalPlace s.recorder.buffers = .join b ∧ decide ((s.recorder.buffers[b]).state = .awaitingSeal) = late := by
      rcases hplace with ⟨rfl, h, hno⟩ | ⟨rfl, h, hnew⟩
      · exact ⟨arrivalPlace_capturing h hno, by rw [h]; rfl⟩
      · exact ⟨arrivalPlace_awaiting h hnew, by rw [h]; rfl⟩
    obtain ⟨hjoin, hlate⟩ := hjoin
    refine (Recorder.arrive_join hjoin ..).trans ?_
    rw [Buffer.join_eq, hlate]
  · have hopens := arrivalPlace_free hcap hfree hlow
    have hr := Recorder.arrive_opens hopens s.cfg s.time s.monitor.distance s.store.sequence s.draws tr
    refine ⟨_, rfl, ?_, fun hlast => ?_⟩
    · exact hr.trans (congrArg (fun n => { s.recorder with
        nextSequence := n
        buffers := s.recorder.buffers.set b
          (Buffer.open s.cfg s.time s.monitor.distance s.store.sequence s.recorder.nextSequence s.recorder.ring tr) })
        (congrArg Recorder.nextSequence hr).symm)
    · have hnext : sequenceAfter s.draws s.recorder.nextSequence = s.recorder.nextSequence + 1 := if_pos hlast
      have hdraw : s.recorder.arrivalDraws = false := by
        rw [Recorder.arrivalDraws, hopens]
        exact decide_eq_false (Nat.not_le_of_lt hlast)
      refine ⟨(congrArg Recorder.nextSequence hr).trans hnext, ?_⟩
      change s.draws + (if s.recorder.arrivalDraws then 1 else 0) = s.draws
      rw [hdraw]
      rfl

/-! ### A driver's health change (R151) -/

/-- Settles O49: a change that the driver can find, by R151's rows. -/
theorem driverHealthTaken : Obligations.DriverHealthTaken := by
  unfold Obligations.DriverHealthTaken
  refine ⟨fun d s hoff => ?_, fun d h s hpow hfind => ?_⟩
  · refine if_neg ?_
    simp [Matrix.canFind, hoff]
  · have hcan : s.matrix.canFind d h = true := by simpa [Matrix.canFind] using hfind
    obtain ⟨mark, raised, hx⟩ : ∃ mark raised,
        healthChange (s.matrix.ownedOutput d) s.matrix.marks[d] s.matrix.health[d] h = (mark, raised) := ⟨_, _, rfl⟩
    have ht : State.driverHealth d s.matrix.health[d] h (s.withDriverHealth d h) = { s with
        deliveries := s.deliveries ++ (if raised then [.triggerArrival (.valveFault d)] else [])
        matrix := { s.matrix with health := s.matrix.health.set d h, marks := s.matrix.marks.set d mark } } := by
      have hown : healthChange ((s.withDriverHealth d h).matrix.ownedOutput d) (s.withDriverHealth d h).matrix.marks[d]
          s.matrix.health[d] h = (mark, raised) := hx
      rw [State.driverHealth, hown]
      rfl
    have hmark : (s.matrix.marks.set d mark)[d] = mark := by rw [getElem_set_fin, if_pos rfl]
    have hrun : exec (.driverHealthChange d h) s =
        powered (State.driverHealth d s.matrix.health[d] h) (s.withDriverHealth d h) := if_pos hcan
    have hno : raised = false →
        s.deliveries ++ (if raised then [Instr.triggerArrival (.valveFault d)] else []) = s.deliveries := fun hr => by
      rw [hr]
      exact List.append_nil _
    refine ⟨_, hrun.trans ((powered_on (show (s.withDriverHealth d h).powered = true from hpow)).trans (congrArg _ ht)), ?_, rfl, fun hok => ?_, fun hbad hwas hown => ?_,
      fun hbad hwas hown => ?_, fun hbad hwas => ?_⟩
    · simp only [hmark]
    · rw [healthChange, if_pos hok] at hx
      cases hx
      exact ⟨hmark, hno rfl⟩
    · rw [healthChange, if_neg hbad, if_pos hwas, if_pos hown] at hx
      cases hx
      exact ⟨hmark, rfl⟩
    · rw [healthChange, if_neg hbad, if_pos hwas, if_neg (by simp [hown])] at hx
      cases hx
      exact ⟨hmark, hno rfl⟩
    · rw [healthChange, if_neg hbad, if_neg hwas] at hx
      cases hx
      exact ⟨hmark, hno rfl⟩

end

end Sys2Proof.Machine

/-! SUPPORT. What a turn of the NV store controller leaves of the recorder, and the sample event: the obligation O47. -/

namespace Sys2Proof.Machine

section
variable {s : State}

/-! ### A turn of the controller (R130, R131, R186) -/

/-- A buffer over a turn: an AWAITING_SEAL one may be granted its SEAL, and no other changes. -/
structure Buffer.Turned (b c : Buffer) : Prop where
  same : b.state ≠ .awaitingSeal → c = b
  awaiting : b.state = .awaitingSeal →
    c = { b with state := c.state, autoLockDenied := c.autoLockDenied } ∧ (c.state = .awaitingSeal ∨ c.state = .sealing)

theorem Buffer.Turned.refl (b : Buffer) : b.Turned b := ⟨fun _ => rfl, fun h => ⟨rfl, .inl h⟩⟩

/-- A recorder over a turn: its directory, and the buffers that waited for their SEAL, may change. -/
structure Recorder.Turned (r t : Recorder) : Prop where
  rest : t = { r with buffers := t.buffers, directory := t.directory }
  buffers : ∀ b : Fin 2, (r.buffers[b]).Turned t.buffers[b]

theorem Recorder.Turned.refl (r : Recorder) : r.Turned r := ⟨rfl, fun _ => .refl _⟩

theorem State.grantSeal_turned {b : Fin 2} (h : (s.recorder.buffers[b]).state = .awaitingSeal) :
    s.recorder.Turned (s.grantSeal b).recorder := by
  rcases State.grantSeal_cases (s := s) b with he | ⟨slot, denied, -, he⟩ <;> rw [he]
  · exact .refl _
  · refine ⟨rfl, fun c => ?_⟩
    change (s.recorder.buffers[c]).Turned
      (s.recorder.buffers.set b { s.recorder.buffers[b] with state := .sealing, autoLockDenied := denied })[c]
    rw [getElem_set_fin]
    split
    · rename_i hc
      subst hc
      exact ⟨fun hne => absurd h hne, fun _ => ⟨rfl, .inr rfl⟩⟩
    · exact .refl _

theorem State.nvTurn_turned (h : ∀ b, s.nv.recorderWait = some b → (s.recorder.buffers[b]).state = .awaitingSeal) :
    s.recorder.Turned s.nvTurn.recorder := by
  have hplaced : ∀ b, s.placeSeal.nv.recorderWait = some b →
      (s.placeSeal.recorder.buffers[b]).state = .awaitingSeal := by
    rw [State.placeSeal_recorder]
    intro b hb
    unfold State.placeSeal at hb
    split at hb
    · exact h b hb
    · split at hb
      · exact h b hb
      · rename_i c hc
        cases hb
        exact awaitingBy_some hc
  rw [State.nvTurn, State.placeSeal_recorder]
  rw [← State.placeSeal_recorder (s := s)]
  generalize s.placeSeal = t at hplaced ⊢
  rcases State.grant_cases (s := t) with he | ⟨-, -, ⟨b, hb, he⟩ | ⟨op, -, -, he⟩⟩ <;> rw [he]
  · exact .refl _
  · exact State.grantSeal_turned (hplaced b hb)
  · rw [State.grantService_recorder]
    exact .refl _

/-- A SEAL that the one AWAITING_SEAL buffer asks for is granted at once where the array is free and nothing waits (R130, R131). -/
theorem State.nvTurn_seals {b : Fin 2} {slot : Fin 12} (hrestart : s.restart = none) (hnv : s.nv = .empty)
    (hb : (s.recorder.buffers[b]).state = .awaitingSeal)
    (hothers : ∀ c : Fin 2, c ≠ b → (s.recorder.buffers[c]).state ≠ .awaitingSeal)
    (hslot : chooseSlot s.recorder.directory = some slot) :
    ∃ a, s.nvTurn.nv = ⟨some (.sealing b slot a false), none, none⟩ := by
  obtain ⟨c, hc⟩ : ∃ c, oldestAwaiting s.recorder.buffers = some c := by
    refine Option.ne_none_iff_exists'.mp fun hnone => ?_
    exact awaitingBy_none.mp hnone b hb
  have hcb : c = b := by
    refine Classical.byContradiction fun hne => ?_
    exact hothers c hne (awaitingBy_some hc)
  subst hcb
  have hplace : s.placeSeal = { s with nv := ⟨none, some c, none⟩ } := by
    rw [State.placeSeal, hnv]
    dsimp only [NvController.empty]
    rw [hc]
  have hgrant : s.placeSeal.grant = s.placeSeal.grantSeal c := by
    rw [hplace, State.grant, hrestart]
    rfl
  have hdir : chooseSlot s.placeSeal.recorder.directory = some slot := by
    rw [State.placeSeal_recorder]
    exact hslot
  have hnone : oldestAwaiting (s.placeSeal.grantSeal c).recorder.buffers = none := by
    rw [State.grantSeal_of_some hdir]
    refine awaitingBy_none.mpr fun d => ?_
    dsimp only
    rw [State.placeSeal_recorder, getElem_set_fin]
    split
    · exact fun h => BufferState.noConfusion h
    · exact hothers d ‹_›
  rw [State.nvTurn, hgrant, State.placeSeal_of_none_awaiting hnone, State.grantSeal_of_some hdir, hplace]
  exact ⟨_, rfl⟩

end

/-! ### The sample record (R119, R120) -/

theorem quantize_two (v : Nat) : (quantize 2 v).1 = min ((v + 1) / 2) 255 ∧ ((quantize 2 v).2 = true ↔ 510 < v) := by
  simp only [quantize, saturate, roundHalfAway]
  repeat' split
  all_goals simp only [true_iff, false_iff, Bool.false_eq_true]
  all_goals omega

theorem quantize_four (v : Nat) : (quantize 4 v).1 = min ((v + 2) / 4) 255 ∧ ((quantize 4 v).2 = true ↔ 1021 < v) := by
  simp only [quantize, saturate, roundHalfAway]
  repeat' split
  all_goals simp only [true_iff, false_iff, Bool.false_eq_true]
  all_goals omega

theorem quantizeDecel_eq (v : Int) :
    (quantizeDecel v).1 = (if 0 ≤ v then min ((v + 2) / 4) 127 else max (-((2 - v) / 4)) (-128))
    ∧ ((quantizeDecel v).2 = true ↔ 509 < v ∨ v < -513) := by
  simp only [quantizeDecel, saturate, roundHalfAway]
  repeat' split
  all_goals simp only [true_iff, false_iff, Bool.false_eq_true, not_or]
  all_goals omega

section
variable {s : State}

theorem State.sampleInputs_sampled (s : State) : s.Sampled (buildSample s.sampleInputs s.recorder.marker) where
  marker := rfl
  reference := rfl
  authority := ⟨rfl, rfl⟩
  demands := ⟨rfl, rfl, rfl⟩
  sums := ⟨rfl, rfl, rfl⟩
  cylinders := ⟨(quantize_two _).1, (quantize_two _).1⟩
  pipe := (quantize_four _).1
  axles i := by
    have h : (buildSample s.sampleInputs s.recorder.marker).axles.get i =
      ⟨(s.slide.axles.get i).state, (quantize 4 (s.slide.axles.get i).creep).1,
        (quantizeDecel (s.slide.axles.get i).decel).1, (s.slide.axles.get i).lim⟩ := PerAxle.get_ofFn ..
    rw [h]
    exact ⟨rfl, (quantize_four _).1, (quantizeDecel_eq _).1⟩
  limits i := by
    have h : (buildSample s.sampleInputs s.recorder.marker).axles.get i =
      ⟨(s.slide.axles.get i).state, (quantize 4 (s.slide.axles.get i).creep).1,
        (quantizeDecel (s.slide.axles.get i).decel).1, (s.slide.axles.get i).lim⟩ := PerAxle.get_ofFn ..
    rw [h]
  flags := ⟨rfl, rfl, rfl, rfl, rfl⟩
  links m := by cases m <;> rfl
  saturation := by
    simp only [buildSample, State.sampleInputs, Bool.or_eq_true, List.any_eq_true, (quantize_two _).2,
      (quantize_four _).2, (quantizeDecel_eq _).2, Axle.mem_all, true_and, or_assoc]

/-! ### The match slots (R123) -/

theorem axleOf_eq_some {n : Byte} {i : Axle} : axleOf n = some i ↔ i.number = n.toNat := by
  constructor
  · intro h
    have hfound := List.find?_some (p := fun i : Axle => decide (i.number = n.toNat)) h
    exact of_decide_eq_true hfound
  · intro h
    cases i <;> simp [axleOf, Axle.all, ← h, Axle.number]

theorem MatchSlot.holds_iff (m : MatchSlot) : m.holds s.sampleInputs = true ↔ m.met s := by
  obtain ⟨enabled, condition, axle, threshold, state⟩ := m
  cases condition with
  | creepAbove =>
    cases hax : axleOf axle with
    | none =>
      have hno : ∀ i : Axle, i.number ≠ axle.toNat := fun i hi => by
        rw [axleOf_eq_some.mpr hi] at hax
        cases hax
      simp [MatchSlot.holds, MatchSlot.met, hax, hno]
    | some i =>
      have hi : ∀ j : Axle, j.number = axle.toNat ↔ j = i := fun j => by
        rw [← axleOf_eq_some, hax, Option.some_inj, eq_comm]
      simp [MatchSlot.holds, MatchSlot.met, hax, hi, State.sampleInputs]
  | refAbove | refBelow | pipeBelow | deficitAbove | authorityAtLeast =>
    exact decide_eq_true_iff

theorem MatchSlot.fires_iff (m : MatchSlot) : m.fires s.sampleInputs = true ↔ m.state = .armed ∧ m.met s := by
  rw [MatchSlot.fires, Bool.and_eq_true, decide_eq_true_iff, MatchSlot.holds_iff]

theorem MatchSlot.evaluate_armed {m : MatchSlot} (h : m.state = .armed) (hm : m.met s) :
    m.evaluate s.sampleInputs = { m with state := .fired } := by
  rw [MatchSlot.evaluate, h, m.holds_iff.mpr hm]

theorem MatchSlot.evaluate_fired {m : MatchSlot} (h : m.state = .fired) (hm : ¬ m.met s) :
    m.evaluate s.sampleInputs = { m with state := .armed } := by
  have hno : m.holds s.sampleInputs = false := Bool.eq_false_iff.mpr (mt m.holds_iff.mp hm)
  rw [MatchSlot.evaluate, h, hno]

theorem MatchSlot.evaluate_same {m : MatchSlot} (h : m.state = .disarmed ∨ (m.state = .fired ↔ m.met s)) :
    m.evaluate s.sampleInputs = m := by
  unfold MatchSlot.evaluate
  split
  · rename_i hs hm
    exfalso
    have hmet := m.holds_iff.mp hm
    rcases h with h | h
    · rw [hs] at h
      cases h
    · have hf := h.mpr hmet
      rw [hs] at hf
      cases hf
  · rename_i hs hm
    exfalso
    rcases h with h | h
    · rw [hs] at h
      cases h
    · rw [m.holds_iff.mpr (h.mp hs)] at hm
      cases hm
  · rfl

/-- The slots that fire at a sample event, in ascending number (R123). -/
def State.firedSlots (s : State) : List (Fin 4) :=
  ([0, 1, 2, 3] : List (Fin 4)).filter fun i => (s.recorder.slots[i]).fires s.sampleInputs

theorem State.mem_firedSlots (i : Fin 4) :
    i ∈ s.firedSlots ↔ (s.recorder.slots[i]).state = .armed ∧ (s.recorder.slots[i]).met s := by
  have hmem : i ∈ ([0, 1, 2, 3] : List (Fin 4)) := by revert i; decide
  rw [State.firedSlots, List.mem_filter, MatchSlot.fires_iff]
  exact and_iff_right hmem

theorem State.firedSlots_pairwise : s.firedSlots.Pairwise (fun i j => i < j) :=
  List.Pairwise.filter _ (by decide)

/-! ### The ring and the buffers (R121, R129) -/

theorem pushRing_eq {ring : List Sample} {x : Sample} (h : ring.length ≤ 64) :
    pushRing ring x = (if ring.length = 64 then ring.drop 1 else ring) ++ [x] := by
  unfold pushRing
  split
  · rw [if_neg (by omega)]
  · have hfull : ring.length = 64 := by omega
    rw [if_pos hfull, hfull, List.drop_append_of_le_length (by omega)]

section
variable {x : Sample} {b c : Buffer}

theorem Buffer.sample_capturing (h : b.state = .capturing) : b.sample x = { b with
    post := b.post ++ [x], position := min (b.position + 1) 65535
    state := if b.window ≤ b.post.length + 1 then .awaitingSeal else .capturing } := by
  rw [Buffer.sample, h]
  simp only [List.length_append, List.length_singleton]
  rfl

theorem Buffer.sample_awaiting (h : b.state = .awaitingSeal) :
    b.sample x = { b with position := min (b.position + 1) 65535 } := by
  rw [Buffer.sample, h]
  simp only [topCount]

theorem Buffer.sample_still (h : b.state = .free ∨ b.state = .sealing) : b.sample x = b := by
  rcases h with h | h <;> rw [Buffer.sample, h]

/-- What a sample event leaves of a buffer, with the turn of the controller that may follow (R129, R131). -/
theorem Buffer.Turned.sample (h : (b.sample x).Turned c) :
    (b.state = .capturing →
      c = { b with
        state := c.state, autoLockDenied := c.autoLockDenied, post := b.post ++ [x]
        position := min (b.position + 1) 65535 }
      ∧ (b.post.length + 1 < b.window → c.state = .capturing)
      ∧ (b.window ≤ b.post.length + 1 → c.state = .awaitingSeal ∨ c.state = .sealing))
    ∧ (b.state = .awaitingSeal →
      c = { b with
        state := c.state, autoLockDenied := c.autoLockDenied, position := min (b.position + 1) 65535 }
      ∧ (c.state = .awaitingSeal ∨ c.state = .sealing))
    ∧ (b.state = .free ∨ b.state = .sealing → c = b) := by
  refine ⟨fun hs => ?_, fun hs => ?_, fun hs => ?_⟩
  · rw [Buffer.sample_capturing hs] at h
    by_cases hend : b.window ≤ b.post.length + 1
    · rw [if_pos hend] at h
      obtain ⟨heq, hst⟩ := h.awaiting rfl
      exact ⟨heq, fun hlt => absurd hlt (Nat.not_lt_of_le hend), fun _ => hst⟩
    · rw [if_neg hend] at h
      have heq := h.same fun hcap => BufferState.noConfusion hcap
      rw [heq]
      exact ⟨rfl, fun _ => rfl, fun hle => absurd hle hend⟩
  · rw [Buffer.sample_awaiting hs] at h
    exact h.awaiting hs
  · rw [Buffer.sample_still hs] at h
    refine h.same ?_
    rcases hs with hs | hs <;> rw [hs] <;> exact fun h => BufferState.noConfusion h

theorem Buffer.sample_state_awaiting (h : (b.sample x).state = .awaitingSeal) :
    b.state = .awaitingSeal ∨ b.state = .capturing ∧ b.window ≤ b.post.length + 1 := by
  cases hs : b.state with
  | free | sealing =>
    rw [Buffer.sample_still (by simp [hs]), hs] at h
    cases h
  | awaitingSeal => exact .inl rfl
  | capturing =>
    rw [Buffer.sample_capturing hs] at h
    by_cases hend : b.window ≤ b.post.length + 1
    · exact .inr ⟨rfl, hend⟩
    · simp [hend] at h

end

/-! ### The sample event (R118) -/

/-- The part once ring and buffers have their sample (R118, steps 1 to 3). -/
def State.sampleHeld (s : State) : State :=
  { s with recorder := s.recorder.takeSample s.sampleInputs, timers := { s.timers with sample := s.time } }

/-- The part once the controller has had its turn after the sample (R118, step 3). -/
def State.sampleTaken (s : State) : State := s.sampleHeld.nvTurn

/-- The part once the match slots are evaluated (R118, step 4). -/
def State.sampleEvaluated (s : State) : State :=
  { s.sampleTaken with recorder := s.sampleTaken.recorder.evaluateSlots s.sampleInputs }

theorem Recorder.takeSample_buffer (x : SampleInputs) (r : Recorder) (b : Fin 2) :
    (r.takeSample x).buffers[b] = (r.buffers[b]).sample (buildSample x r.marker) := by
  simp [Recorder.takeSample]

theorem Recorder.evaluateSlots_slot (x : SampleInputs) (r : Recorder) (i : Fin 4) :
    (r.evaluateSlots x).slots[i] = (r.slots[i]).evaluate x := by
  simp [Recorder.evaluateSlots]

theorem State.sampleTaken_turned
    (hwait : ∀ b : Fin 2, s.nv.recorderWait = some b → (s.recorder.buffers[b]).state = .awaitingSeal) :
    (s.recorder.takeSample s.sampleInputs).Turned s.sampleTaken.recorder :=
  State.nvTurn_turned (s := s.sampleHeld) fun b hb => by
    have hs := hwait b hb
    change ((s.recorder.takeSample s.sampleInputs).buffers[b]).state = .awaitingSeal
    rw [Recorder.takeSample_buffer, Buffer.sample_awaiting hs]
    exact hs

theorem State.recorderSample_eq (hslots : s.sampleTaken.recorder.slots = s.recorder.slots) :
    s.recorderSample = s.firedSlots.foldl (fun v i => v.arrive (.matched i)) s.sampleEvaluated := by
  have htriggers : s.sampleTaken.recorder.matchTriggers s.sampleInputs = s.firedSlots.map Trigger.matched := by
    rw [Recorder.matchTriggers, hslots, State.firedSlots, ← filterMap_if]
  change (s.sampleTaken.recorder.matchTriggers s.sampleInputs).foldl _ s.sampleEvaluated = _
  rw [htriggers, List.foldl_map]

/-- Settles O47: the sample and the turn that it gives the controller, then the match slots and their triggers. -/
theorem recorderSampleTaken : Obligations.RecorderSampleTaken := by
  unfold Obligations.RecorderSampleTaken
  intro s hpow hring hwait
  obtain ⟨hrest, hbuffers⟩ := State.sampleTaken_turned hwait
  have hslots : s.sampleTaken.recorder.slots = s.recorder.slots := by rw [hrest]; rfl
  have hevaluated : ∀ i : Fin 4, s.sampleEvaluated.recorder.slots[i] = (s.recorder.slots[i]).evaluate s.sampleInputs :=
    fun i => by
      rw [← hslots]
      exact Recorder.evaluateSlots_slot ..
  refine ⟨buildSample s.sampleInputs s.recorder.marker, s.firedSlots, s.sampleEvaluated, _,
    (powered_on hpow).trans rfl, s.sampleInputs_sampled, State.recorderSample_eq hslots, State.firedSlots_pairwise,
    State.mem_firedSlots, fun i => ?_, ?_, ?_, ?_, ?_, fun b => ?_, fun hidle hrun => ?_,
    fun b slot hidle hfree hcap hothers hend hslot => ?_⟩
  · rw [hevaluated]
    exact ⟨MatchSlot.evaluate_armed, MatchSlot.evaluate_fired, MatchSlot.evaluate_same⟩
  · have h : s.sampleTaken.recorder.ring = pushRing s.recorder.ring (buildSample s.sampleInputs s.recorder.marker) := by
      rw [hrest]
      rfl
    exact h.trans (pushRing_eq hring)
  · change s.sampleTaken.recorder.marker = none
    rw [hrest]
    rfl
  · change s.sampleTaken.recorder.nextSequence = s.recorder.nextSequence
    rw [hrest]
    rfl
  · exact congrArg Timers.sample (State.nvTurn_timers (s := s.sampleHeld))
  · have hb := hbuffers b
    rw [Recorder.takeSample_buffer] at hb
    exact hb.sample
  · have hnone : ∀ b : Fin 2, ((s.recorder.takeSample s.sampleInputs).buffers[b]).state ≠ .awaitingSeal := fun b hb => by
      rw [Recorder.takeSample_buffer] at hb
      rcases Buffer.sample_state_awaiting hb with h | ⟨hcap, hle⟩
      · exact awaitingBy_none.mp hidle.2.2.2 b h
      · exact absurd (hrun b hcap) (Nat.not_lt_of_le hle)
    have hturn : s.sampleTaken = s.sampleHeld := by
      obtain ⟨hrestart, hseal, hservice, -⟩ := hidle
      exact State.nothingWaits.nvTurn ⟨hrestart, hseal, hservice, awaitingBy_none.mpr hnone⟩
    rw [State.sampleEvaluated, hturn]
    rfl
  · obtain ⟨hrestart, hseal, hservice, hnone⟩ := hidle
    have hnv : s.nv = .empty := by
      generalize s.nv = n at *
      obtain ⟨a, b, c⟩ := n
      cases hfree
      cases hseal
      cases hservice
      rfl
    refine State.nvTurn_seals (s := s.sampleHeld) (b := b) (slot := slot) hrestart hnv ?_ (fun c hc hs => ?_) hslot
    · change ((s.recorder.takeSample s.sampleInputs).buffers[b]).state = .awaitingSeal
      rw [Recorder.takeSample_buffer, Buffer.sample_capturing hcap, if_pos hend]
    · change ((s.recorder.takeSample s.sampleInputs).buffers[c]).state = .awaitingSeal at hs
      rw [Recorder.takeSample_buffer] at hs
      rcases Buffer.sample_state_awaiting hs with h | ⟨h, -⟩
      · exact awaitingBy_none.mp hnone c h
      · exact hothers c hc h

end

end Sys2Proof.Machine

/-! SUPPORT. What a reset of either kind leaves: the obligations O50, O51 and O53. -/

namespace Sys2Proof.Machine

section
variable {s t : State}

/-! ### The arbiter after a reset (R29, R30) -/

section
variable (cfg : ConfigSet) (now : Nat) (line valid : Bool)

/-- The table that a reset's one event settles, with the record not yet rebuilt of it (R29, R30). -/
def Arbiter.resetTable : Arbiter :=
  { Arbiter.cleared line valid with
    restraintRaised := true
    emergencyRaisers := ⟨false, false, line, false⟩
    governor := some (if line then .s8 else .s7)
    stack := if line then [.s7] else []
    entries := ⟨.cleared, .cleared, .cleared, .cleared, .cleared, .cleared, .cleared,
      ⟨if line then .held else .governing, 0, cfg.restraintEffort, now⟩,
      if line then ⟨.governing, 0, cfg.emergencyEffort, now⟩ else .cleared⟩ }

/-- The arbiter that a reset leaves (R29, R30). -/
def Arbiter.resetSettled : Arbiter :=
  { Arbiter.resetTable cfg now line valid with record := (Arbiter.resetTable cfg now line valid).buildRecord }

theorem Arbiter.takeReset_cleared : (Arbiter.cleared line valid).takeReset =
    { Arbiter.cleared line valid with restraintRaised := true, emergencyRaisers := ⟨false, false, line, false⟩ } := by
  cases line <;> rfl

/-- Step 2 of R8 finds nothing to do in a table that is IDLE throughout. -/
theorem Arbiter.goIdles_of_idle {a : Arbiter} (h : ∀ g, a.nonIdle g = false) : a.goIdles = a := by
  simp [Arbiter.goIdles, Source.all, h]

/-- Step 3 of R8 after a reset: S7 leaves IDLE, and S8 after it where the EMERGENCY line is asserted. -/
theorem Arbiter.leaveIdles_reset :
    (((Arbiter.cleared line valid).takeReset).leaveIdles now).refreshEfforts cfg = Arbiter.resetTable cfg now line valid := by
  rw [Arbiter.takeReset_cleared]
  cases line <;>
    simp [Arbiter.leaveIdles, Source.all, Arbiter.cleared, Arbiter.nonIdle, Arbiter.standing, PerSource.get, PerSource.set,
      Arbiter.wants, Arbiter.inForce, Entry.cleared, LossRaisers.any, EmergencyRaisers.any, Arbiter.leaveIdle,
      Arbiter.authority, Arbiter.withStanding, Arbiter.resetTable, Arbiter.refreshEfforts, Arbiter.withEfforts, sourceLevel]

theorem Arbiter.settle_reset :
    Arbiter.settle cfg now (Arbiter.cleared line valid).takeReset = Arbiter.resetSettled cfg now line valid := by
  have hidle : ∀ g, (Arbiter.cleared line valid).takeReset.nonIdle g = false := fun g => by
    rw [Arbiter.takeReset_cleared]
    cases g <;> rfl
  rw [Arbiter.settle, Arbiter.goIdles_of_idle hidle, Arbiter.leaveIdles_reset]
  rfl

theorem Arbiter.resetSettled_nonIdle (g : Source) :
    (Arbiter.resetSettled cfg now line valid).nonIdle g = (decide (g = .s7) || decide (g = .s8) && line) := by
  cases line <;> cases g <;> rfl

theorem Arbiter.resetSettled_entry (g : Source) :
    ((Arbiter.resetSettled cfg now line valid).entries.get g).posted = 0
    ∧ ((Arbiter.resetSettled cfg now line valid).entries.get g).inForce =
        (if g = .s7 then cfg.restraintEffort else if g = .s8 ∧ line = true then cfg.emergencyEffort else 0)
    ∧ ((Arbiter.resetSettled cfg now line valid).entries.get g).stamp =
        (if (Arbiter.resetSettled cfg now line valid).nonIdle g then now else 0) := by
  cases line <;> cases g <;> exact ⟨rfl, rfl, rfl⟩

end

/-! ### The part that a reset concludes (R33, R145, R158) -/

/-- A part ready for the steps that every reset ends with, made of `s`: every block is in its state after reset, and the deliveries that stay are triggers (R29, R33, R73, R89, R117, R158, R176). -/
structure State.Begun (s t : State) : Prop where
  triggers : ∀ c ∈ t.deliveries, isTriggerDelivery c = true
  powered : t.powered = true
  timers : t.timers = .started t.time
  arbiter : t.arbiter = .cleared s.emergencyLine (t.store.state = .valid)
  loops : t.loops = ⟨.afterReset, .afterReset⟩
  watch : t.watch = .afterReset
  monitor : t.monitor = .afterReset (tachChannels t.matrix.table) t.monitor.accumulator t.monitor.distance
  slide : t.slide = .afterReset t.store.live
  matrix : t.matrix = { t.matrix.afterWarm with health := s.matrix.health }
  ports : t.ports = .afterReset
  nv : t.nv = .empty
  restart : t.restart = none
  outside : t.array = s.array ∧ t.pending = s.pending ∧ t.emergencyLine = s.emergencyLine ∧ t.restartLine = s.restartLine

/-- The arbiter that the conclusion of a reset leaves. -/
def State.resetArbiter (t : State) : Arbiter :=
  Arbiter.resetSettled t.store.live t.time t.emergencyLine (t.store.state = .valid)

/-- The order that a reset sends where the EMERGENCY line is asserted (R33). -/
def resetOrder : EffortOrder := ⟨⟨0, 0, 0, 0, 0, 0⟩, .emergency⟩

/-- What a reset delivers of its own: S8's leaving IDLE, where the EMERGENCY line is asserted (R20, R30, R110). -/
def resetDeliveries (line : Bool) : List Instr :=
  if line then [.s8LeavesIdle, .triggerArrival (.emergencyAccepted .line)] else []

/-- The part that a reset concludes, before the recorder places its seal again. -/
def State.resetDone (t : State) : State :=
  { t with
    arbiter := t.resetArbiter
    matrix := { t.matrix.alignMarks with functions := ⟨false, false, false, false, t.emergencyLine, false, false⟩ }
    ledger := { Ledger.afterReset t.resetArbiter.record with lastReason := if t.emergencyLine then .emergency else .period }
    ports := if t.emergencyLine then
        { Ports.afterReset with
          port := ⟨.afterReset, { Port.afterReset with sending := some resetOrder.frame }, .afterReset, .afterReset⟩ }
      else Ports.afterReset
    deliveries := t.deliveries ++ t.matrix.alignTriggers ++ resetDeliveries t.emergencyLine }

theorem Matrix.alignTriggers_isTrigger {m : Matrix} {c : Instr} (h : c ∈ m.alignTriggers) : isTriggerDelivery c = true := by
  rw [Matrix.alignTriggers, List.mem_filterMap] at h
  obtain ⟨d, -, hd⟩ := h
  split at hd
  · cases hd
    rfl
  · cases hd

theorem State.Begun.arbiterDeliveries (h : s.Begun t) : arbiterDeliveries t.arbiter t.resetArbiter =
    (if t.emergencyLine then [.emergencyNotice] else []) ++ resetDeliveries t.emergencyLine := by
  rw [h.arbiter, State.resetArbiter]
  cases t.emergencyLine <;> rfl

theorem State.Begun.raised (h : s.Begun t) : t.resetRaised = { t with
    arbiter := t.resetArbiter
    matrix := { t.matrix.alignMarks with functions := ⟨false, false, false, false, t.emergencyLine, false, false⟩ }
    deliveries := t.deliveries ++ t.matrix.alignTriggers
      ++ ((if t.emergencyLine then [.emergencyNotice] else []) ++ resetDeliveries t.emergencyLine) } := by
  have hsettled : Arbiter.settle t.store.live t.time t.arbiter.takeReset = t.resetArbiter := by
    rw [h.arbiter, Arbiter.settle_reset, State.resetArbiter, h.outside.2.2.1]
  have hvent : ventFunctions t.arbiter t.resetArbiter t.matrix.functions =
      ⟨false, false, false, false, t.emergencyLine, false, false⟩ := by
    rw [h.arbiter, h.matrix, State.resetArbiter]
    cases t.emergencyLine <;> rfl
  rw [← h.arbiterDeliveries, ← hvent, ← hsettled]
  rfl

/-- Every step of a reset but the recorder's seal, in one: the emergency notice is taken, and its order sent, where the EMERGENCY line is asserted (R33). -/
theorem State.Begun.noticed (h : s.Begun t) : t.resetNoticed = t.resetDone := by
  have hcopied : t.resetCopied = { t with
      arbiter := t.resetArbiter
      matrix := { t.matrix.alignMarks with functions := ⟨false, false, false, false, t.emergencyLine, false, false⟩ }
      deliveries := t.deliveries ++ t.matrix.alignTriggers
        ++ ((if t.emergencyLine then [.emergencyNotice] else []) ++ resetDeliveries t.emergencyLine)
      ledger := .afterReset t.resetArbiter.record } := by
    rw [State.resetCopied, h.raised]
  have hs8 : t.resetArbiter.nonIdle .s8 = t.emergencyLine := by
    rw [State.resetArbiter, Arbiter.resetSettled_nonIdle]
    rfl
  have hrecord : t.resetArbiter.record.emergency = t.emergencyLine := hs8
  have hnot : Instr.emergencyNotice ∉ t.deliveries ++ t.matrix.alignTriggers := fun hmem => by
    rcases List.mem_append.mp hmem with hmem | hmem
    · exact Bool.noConfusion (h.triggers _ hmem)
    · exact Bool.noConfusion (Matrix.alignTriggers_isTrigger hmem)
  rw [State.resetNoticed, hcopied]
  dsimp only
  rw [hs8, State.resetDone]
  cases hline : t.emergencyLine with
  | false =>
    rw [if_neg Bool.false_ne_true, h.ports]
    rfl
  | true =>
    rw [hline] at hrecord
    rw [if_pos rfl, State.emergencyOrder, State.order]
    dsimp only
    rw [hrecord, h.ports, if_pos rfl, List.erase_append_right _ hnot]
    rfl

theorem State.Begun.concluded (h : s.Begun t) : t.concludeReset = t.resetDone.nvTurn := by
  rw [State.concludeReset_eq, h.noticed]

/-- A turn of the controller writes the recorder, its own record and the ports alone (R130, R186). -/
theorem State.nvTurn_rest (s : State) : s.nvTurn =
    { s with recorder := s.nvTurn.recorder, nv := s.nvTurn.nv, ports := s.nvTurn.ports } :=
  calc s.nvTurn = { s.nvTurn with pending := s.nvTurn.pending } := rfl
    _ = _ := by simp

/-- What the recorder's seal leaves of the part that a reset concludes: all but recorder and controller. -/
theorem State.Begun.concluded_rest (h : s.Begun t) : t.concludeReset = { t.resetDone with
    recorder := t.concludeReset.recorder, nv := t.concludeReset.nv } := by
  have hout : t.resetDone.ports.outstanding = none := by
    rw [State.resetDone]
    cases t.emergencyLine <;> rfl
  have hrest := State.nvTurn_rest t.resetDone
  rwa [State.nvTurn_ports_of_unowed hout, ← h.concluded] at hrest

/-- The marks after a reset: each function-owned channel whose driver is not OK (R158). -/
theorem State.Begun.marks (h : s.Begun t) (d : Fin 8) :
    t.matrix.alignMarks.marks[d] = (t.matrix.ownedOutput d && decide (s.matrix.health[d] ≠ .ok)) := by
  have hmark : t.matrix.marks[d] = false := by
    rw [h.matrix]
    exact Vector.getElem_ofFn ..
  have hhealth : t.matrix.health[d] = s.matrix.health[d] := by
    rw [h.matrix]
  rw [Matrix.alignMarks_marks, hmark, hhealth, Bool.false_or, decide_not]
  rfl

/-- The VALVE_FAULT triggers of a reset: one for each mark that it leaves (R151, R158). -/
theorem State.Begun.mem_faults (h : s.Begun t) (c : Instr) : c ∈ t.matrix.alignTriggers ↔
    ∃ d : Fin 8, c = .triggerArrival (.valveFault d) ∧ t.matrix.alignMarks.marks[d] = true := by
  have hmark (d : Fin 8) : t.matrix.marks[d] = false := by
    rw [h.matrix]
    exact Vector.getElem_ofFn ..
  have hall (d : Fin 8) : d ∈ allDrivers := by revert d; decide
  have hraised (d : Fin 8) : (t.matrix.alignMarks.ownedOutput d && !t.matrix.marks[d] && decide (t.matrix.health[d] ≠ .ok))
      = t.matrix.alignMarks.marks[d] := by
    rw [Matrix.alignMarks_marks, hmark, decide_not, Bool.false_or, Bool.not_false, Bool.and_true]
  simp only [Matrix.alignTriggers_eq, hraised, List.mem_map, List.mem_filter, hall, true_and]
  exact ⟨fun ⟨d, hd, hc⟩ => ⟨d, hc.symm, hd⟩, fun ⟨d, hc, hd⟩ => ⟨d, hd, hc.symm⟩⟩

theorem State.Begun.fromReset (h : s.Begun t) : s.FromReset t.concludeReset t.deliveries := by
  have hrest := h.concluded_rest
  have hlaws : ArbiterInv t.concludeReset := .of_settle (Arbiter.Lawful.cleared s.emergencyLine _).takeReset (by
    rw [State.concludeReset_arbiter, h.arbiter])
  have hservice : t.concludeReset.nv.serviceWait = none := by
    rw [h.concluded]
    refine State.nvTurn_serviceWait ?_
    change t.nv.serviceWait = none
    rw [h.nv]
    rfl
  obtain ⟨harray, hpending, hline, hrestart⟩ := h.outside
  generalize t.concludeReset = u at hrest hlaws hservice
  rw [hrest] at hlaws hservice ⊢
  constructor
  case axles =>
    intro i
    change t.monitor.axles.get i = ⟨.healthy, [], 0, [], 0, tachChannel t.matrix.table i⟩
    rw [h.monitor]
    cases i <;> rfl
  case reference =>
    change t.monitor.fine = 0 ∧ t.monitor.reported = 0 ∧ t.monitor.degraded = false
      ∧ t.monitor.standstillTimer = 0 ∧ t.monitor.standstill = false
    rw [h.monitor]
    exact ⟨rfl, rfl, rfl, rfl, rfl⟩
  case slide =>
    change (∀ i, t.slide.axles.get i = ⟨.adhering, 0, 0, 0, 1000, t.store.live.correctionBudget, false, 0⟩)
      ∧ (∀ k, t.slide.trucks.get k = ⟨.none, 0, false⟩) ∧ t.slide.sand = ⟨false, .off, 0⟩ ∧ t.slide.reference = 0
    rw [h.slide]
    exact ⟨fun i => by cases i <;> rfl, fun k => by cases k <;> rfl, rfl, rfl⟩
  case loops =>
    change (∀ k, t.loops.get k = ⟨.starting, .lap, 0, .none, 0, 0, 0, false⟩) ∧ t.watch = ⟨.starting, [], 0, 0, false, false⟩
    rw [h.loops, h.watch]
    exact ⟨fun k => by cases k <;> rfl, rfl⟩
  case links =>
    intro m
    dsimp only [State.resetDone]
    cases t.emergencyLine <;> cases m <;> rfl
  case ports =>
    dsimp only [State.resetDone]
    rw [← hline]
    cases t.emergencyLine with
    | false =>
      exact ⟨fun p => by cases p <;> exact ⟨rfl, rfl⟩, fun p _ => by cases p <;> rfl, rfl, rfl, rfl⟩
    | true =>
      refine ⟨fun p => by cases p <;> exact ⟨rfl, rfl⟩, fun p hp => ?_, rfl, rfl, rfl⟩
      cases p with
      | traction => exact absurd rfl hp
      | cab | supervision | service => rfl
  case capability =>
    dsimp only [State.resetDone]
    cases t.emergencyLine <;> exact ⟨fun i => by cases i <;> exact ⟨rfl, rfl⟩, rfl⟩
  case outputs =>
    refine ⟨?_, fun p => ?_, h.marks, ?_⟩
    · rw [← hline]
      rfl
    · have hpulse : t.matrix.pulses[p] = .afterReset := by
        rw [h.matrix]
        exact Vector.getElem_ofFn ..
      change (t.matrix.pulses[p]).count = 0 ∧ (t.matrix.pulses[p]).latest = 0 ∧ (t.matrix.pulses[p]).total = 0
      rw [hpulse]
      exact ⟨rfl, rfl, rfl⟩
    · change t.matrix.health = s.matrix.health
      rw [h.matrix]
  case demands =>
    rw [← hline]
    refine ⟨fun g => ?_, fun g => ?_, rfl, rfl, rfl, rfl⟩
    · change (Arbiter.resetSettled _ _ _ _).nonIdle g = true ↔ _
      simp [Arbiter.resetSettled_nonIdle]
    · exact Arbiter.resetSettled_entry ..
  case copies =>
    rw [← hline]
    exact ⟨rfl, rfl, rfl, rfl, rfl, rfl, rfl, rfl, rfl, rfl, rfl, rfl⟩
  case laws => exact hlaws
  case ledger =>
    rw [← hline]
    rfl
  case deliveries =>
    rw [← hline]
    exact ⟨t.matrix.alignTriggers, h.mem_faults, rfl⟩
  case timers => exact h.timers
  case conditions => exact ⟨h.restart, hservice, h.powered⟩
  case outside => exact ⟨harray, hpending, hline, hrestart⟩

end

end Sys2Proof.Machine

/-! SUPPORT. The warm restart and the power-on reset: the obligations O50, O51 and O53. -/

namespace Sys2Proof.Machine

section
variable {s t : State} {cause : ResetCause}

/-! ### A warm restart (R189, R190) -/

/-- The part that a warm restart concludes: every block in its warm restart state (R190). -/
def State.warmBegun (cause : ResetCause) (s : State) : State :=
  { s with
    deliveries := s.deliveries.filter isTriggerDelivery
    timers := .started s.time
    arbiter := .cleared s.emergencyLine (s.store.state = .valid)
    loops := ⟨.afterReset, .afterReset⟩
    watch := .afterReset
    monitor := .afterReset (tachChannels s.matrix.table) s.monitor.accumulator s.monitor.distance
    slide := .afterReset s.cfg
    recorder := s.recorder.afterWarm cause
    matrix := s.matrix.afterWarm
    ports := .afterReset
    nv := .empty
    restart := none
    lastReset := cause }

theorem State.warmRestart_eq : s.warmRestart cause = (s.warmBegun cause).concludeReset := rfl

theorem State.warmBegun_begun (h : s.powered = true) : s.Begun (s.warmBegun cause) where
  triggers _ hc := (List.mem_filter.mp hc).2
  powered := h
  timers := rfl
  arbiter := rfl
  loops := rfl
  watch := rfl
  monitor := rfl
  slide := rfl
  matrix := rfl
  ports := rfl
  nv := rfl
  restart := rfl
  outside := ⟨rfl, rfl, rfl, rfl⟩

theorem Recorder.afterWarm_buffer (r : Recorder) (b : Fin 2) : (r.afterWarm cause).buffers[b] = (r.buffers[b]).atRestart := by
  simp [Recorder.afterWarm]

theorem Buffer.atRestart_free {b : Buffer} (h : b.state = .free) : b.atRestart = b := if_neg (by simp [h])

/-- A part with every buffer FREE has no SEAL to place (R130). -/
theorem oldestAwaiting_of_free {bs : Vector Buffer 2} (h : ∀ b : Fin 2, (bs[b]).state = .free) : oldestAwaiting bs = none :=
  awaitingBy_none.mpr fun b hb => by
    rw [h b] at hb
    cases hb

theorem State.warmRestart_restarted (h : s.powered = true) : s.Restarted (s.warmRestart cause) cause := by
  have hb := State.warmBegun_begun (cause := cause) h
  have hrest := hb.concluded_rest
  have hturned : (s.recorder.afterWarm cause).Turned (s.warmRestart cause).recorder := by
    rw [State.warmRestart_eq, hb.concluded]
    exact State.nvTurn_turned (s := (s.warmBegun cause).resetDone) fun b hwait => by cases hwait
  have hquiet : (∀ b : Fin 2, (s.recorder.buffers[b]).state = .free) →
      (s.warmRestart cause).recorder = s.recorder.afterWarm cause ∧ (s.warmRestart cause).nv = .empty := fun hfree => by
    have hidle : (s.warmBegun cause).resetDone.nothingWaits := by
      refine ⟨rfl, rfl, rfl, oldestAwaiting_of_free fun b => ?_⟩
      change ((s.recorder.afterWarm cause).buffers[b]).state = .free
      rw [Recorder.afterWarm_buffer, Buffer.atRestart_free (hfree b)]
      exact hfree b
    rw [State.warmRestart_eq, hb.concluded, hidle.nvTurn]
    exact ⟨rfl, rfl⟩
  have hreset := hb.fromReset
  rw [← State.warmRestart_eq] at hrest hreset
  refine ⟨hreset, ⟨s.warmRestart_lastReset cause, ?_⟩, ?_, ?_, fun b => ?_, fun hfree => ⟨?_, (hquiet hfree).2⟩⟩
  · rw [hturned.rest]
    rfl
  · rw [hrest]
    exact ⟨rfl, rfl, rfl, rfl, rfl, rfl⟩
  · rw [hturned.rest]
    exact ⟨rfl, rfl, rfl, rfl⟩
  · have hbuf := hturned.buffers b
    rw [Recorder.afterWarm_buffer] at hbuf
    refine ⟨fun hs => ?_, fun hs => ?_⟩
    · rw [Buffer.atRestart_free hs] at hbuf
      exact hbuf.same fun ha => BufferState.noConfusion (hs.symm.trans ha)
    · rw [Buffer.atRestart] at hbuf
      by_cases hcap : (s.recorder.buffers[b]).state = .capturing
      · rw [if_pos hcap] at hbuf
        obtain ⟨heq, hst⟩ := hbuf.awaiting rfl
        refine ⟨?_, hst⟩
        rw [hcap, decide_eq_true rfl, Bool.or_true]
        exact heq
      · rw [if_neg hcap] at hbuf
        obtain ⟨heq, hst⟩ := hbuf.awaiting (hs.resolve_left hcap)
        refine ⟨?_, hst⟩
        rw [decide_eq_false hcap, Bool.or_false]
        exact heq
  · have hsame : (s.recorder.afterWarm cause).buffers = s.recorder.buffers := Vector.ext fun i hi => by
      have hbuf := s.recorder.afterWarm_buffer (cause := cause) ⟨i, hi⟩
      rwa [Buffer.atRestart_free (hfree ⟨i, hi⟩)] at hbuf
    rw [(hquiet hfree).1]
    exact congrArg (fun bs => { s.recorder with buffers := bs, marker := some cause }) hsame

theorem State.restartIfDue_of_held (h : s.nv.inFlight.isSome = true ∨ s.ports.restartOwed = true) : s.restartIfDue = s := by
  rcases s.restartIfDue_cases with he | ⟨_, -, hfree, howed, -⟩
  · exact he
  · rw [hfree, howed] at h
    simp at h

/-- Settles O50: a call marks the restart pending, and what is pending takes effect where neither condition holds it up. -/
theorem restartCalledAndTaken : Obligations.RestartCalledAndTaken := by
  unfold Obligations.RestartCalledAndTaken
  refine fun s => ⟨rfl, fun hpow hwas => ?_, fun hpow hwas => ⟨fun hheld => ?_, fun hfree howed => ?_⟩,
    fun hpow => ⟨fun h => ?_, fun cause hcause hfree howed => ?_⟩⟩
  · have hsame : { s with restartLine := true } = s := by rw [← hwas]
    refine (powered_on (show ({ s with restartLine := true } : State).powered = true from hpow)).trans ?_
    rw [State.lineRestart, hwas, if_pos rfl, hsame]
  · refine (powered_on (show ({ s with restartLine := true } : State).powered = true from hpow)).trans ?_
    rw [State.lineRestart, hwas, if_neg Bool.false_ne_true]
    exact congrArg _ (State.restartIfDue_of_held hheld)
  · have hdue := State.restartIfDue_of_due
      (s := { s with restartLine := true, restart := some (s.restart.getD .restartLine) }) rfl hfree howed
    refine ⟨_, ?_, State.warmRestart_restarted (s := { s with restartLine := true }) hpow⟩
    refine (powered_on (show ({ s with restartLine := true } : State).powered = true from hpow)).trans ?_
    rw [State.lineRestart, hwas, if_neg Bool.false_ne_true]
    exact congrArg _ hdue
  · refine (powered_on hpow).trans (congrArg _ ?_)
    rcases h with h | h
    · exact State.restartIfDue_of_none h
    · exact State.restartIfDue_of_held h
  · refine ⟨_, powered_on hpow, ?_⟩
    rw [State.restartIfDue_of_due hcause hfree howed]
    exact State.warmRestart_restarted hpow

/-! ### The power-on scan (R134, R135) -/

section
variable (x : NvSlot)

/-- A slot as the power-on scan finds it, by its state byte and its CRC (R135). -/
theorem NvSlot.scan_fields : x.scan.sequence = x.field 2 4 ∧ x.scan.kind = x.field 6 1
    ∧ (x.field 0 1 = 0 → x.scan.state = .empty ∧ x.scan.lock = false)
    ∧ (x.field 0 1 = 2 → x.computedCrc = x.field 56 2 → x.scan.state = .sealed ∧ (x.scan.lock = true ↔ x.field 1 1 = 1))
    ∧ (x.field 0 1 ≠ 0 → x.field 0 1 ≠ 2 ∨ x.computedCrc ≠ x.field 56 2 →
        x.scan.state = .damaged ∧ x.scan.lock = false) := by
  simp only [NvSlot.scan]
  by_cases h0 : x.field 0 1 = 0
  · simp [h0]
  · by_cases h2 : x.field 0 1 = 2 ∧ x.computedCrc = x.field 56 2
    · simp [h2]
    · rw [if_neg h0, if_neg h2]
      exact ⟨rfl, rfl, fun h => absurd h h0, fun h hcrc => absurd ⟨h, hcrc⟩ h2, fun _ _ => ⟨rfl, rfl⟩⟩

end

theorem foldl_max_eq {α : Type} {l : List α} {f : α → Nat} {i : α} {m : Nat} (hi : m = f i ∨ i ∈ l) (hm : m ≤ f i)
    (h : ∀ j ∈ l, f j ≤ f i) : l.foldl (fun m j => max m (f j)) m = f i := by
  induction l generalizing m with
  | nil => exact hi.resolve_right List.not_mem_nil
  | cons j l ih =>
    have hj : f j ≤ f i := h j List.mem_cons_self
    refine ih ?_ (Nat.max_le.mpr ⟨hm, hj⟩) fun k hk => h k (List.mem_cons_of_mem j hk)
    rcases hi with rfl | hi
    · exact .inl (Nat.max_eq_left hj)
    · rcases List.mem_cons.mp hi with rfl | hi
      · exact .inl (Nat.max_eq_right hm)
      · exact .inr hi

theorem largestSequence_eq {d : Vector DirEntry 12} {i : Fin 12} (h : ∀ j : Fin 12, (d[j]).sequence ≤ (d[i]).sequence) :
    largestSequence d = (d[i]).sequence :=
  foldl_max_eq (.inr (mem_allSlots i)) (Nat.zero_le _) fun j _ => h j

/-! ### A power-on reset (R184) -/

/-- The part that a power-on reset concludes: every block in its power-on state (R184). -/
def State.powerBegun (s : State) : State :=
  { s with
    deliveries := []
    powered := true
    time := 0
    timers := .started 0
    arbiter := .cleared s.emergencyLine ((Store.afterPowerOn s.array.image).state = .valid)
    loops := ⟨.afterReset, .afterReset⟩
    watch := .afterReset
    monitor := .afterReset (tachChannels (tableAfterPowerOn s.array.image)) 0 0
    slide := .afterReset (Store.afterPowerOn s.array.image).live
    recorder := .afterPowerOn s.draws s.array.slots
    matrix := s.matrix.afterPowerOn (tableAfterPowerOn s.array.image)
    ports := .afterReset
    store := Store.afterPowerOn s.array.image
    nv := .empty
    restart := none
    lastReset := .powerOn
    draws := s.draws + 1 }

theorem State.powerOn_eq : s.powerOn = s.powerBegun.concludeReset := rfl

theorem State.powerBegun_begun (s : State) : s.Begun s.powerBegun where
  triggers _ hc := absurd hc List.not_mem_nil
  powered := rfl
  timers := rfl
  arbiter := rfl
  loops := rfl
  watch := rfl
  monitor := rfl
  slide := rfl
  matrix := rfl
  ports := rfl
  nv := rfl
  restart := rfl
  outside := ⟨rfl, rfl, rfl, rfl⟩

theorem Recorder.afterPowerOn_buffer (draw : Nat) (slots : Vector NvSlot 12) (b : Fin 2) :
    (Recorder.afterPowerOn draw slots).buffers[b] = .free := by simp [Recorder.afterPowerOn]

/-- With every buffer FREE no SEAL follows a power-on reset. -/
theorem State.powerOn_done (s : State) : s.powerOn = s.powerBegun.resetDone := by
  have hidle : s.powerBegun.resetDone.nothingWaits := by
    refine ⟨rfl, rfl, rfl, oldestAwaiting_of_free fun b => ?_⟩
    exact congrArg Buffer.state (Recorder.afterPowerOn_buffer s.draws s.array.slots b)
  rw [State.powerOn_eq, s.powerBegun_begun.concluded, hidle.nvTurn]

theorem State.powerOn_recorder (s : State) : s.powerOn.recorder = .afterPowerOn s.draws s.array.slots := by
  rw [State.powerOn_done]
  rfl

/-- Settles O51: the image by R184's conditions, the slots by their scan, and every block as the reset leaves it. -/
theorem powerOnResetTaken : Obligations.PowerOnResetTaken := by
  unfold Obligations.PowerOnResetTaken
  intro s
  have hreset : s.FromReset s.powerOn [] := s.powerBegun_begun.fromReset
  have hstore : s.powerOn.store = Store.afterPowerOn s.array.image
      ∧ s.powerOn.matrix.table = tableAfterPowerOn s.array.image := by
    rw [State.powerOn_done]
    exact ⟨rfl, rfl⟩
  have hgood : s.array.image.good = true ↔
      s.array.image.crcOk = true ∧ s.array.image.live.legal = true ∧ tableOk s.array.image.table = true := by
    rw [ConfigImage.good, Bool.and_eq_true, Bool.and_eq_true, and_assoc]
  have hdir (i : Fin 12) : s.powerOn.recorder.directory[i] = (s.array.slots[i]).scan := by
    rw [State.powerOn_recorder]
    exact scanSlots_get ..
  refine ⟨_, rfl, hreset, ?_, ?_, ?_, ?_, ?_, fun h => ?_, fun h => ?_, fun d => ?_, ?_, ?_, fun b => ?_, fun i => ?_,
    fun i => ?_, fun i => ?_, fun i hmax hlast => ?_⟩
  · rw [State.powerOn_done]
    rfl
  · rw [State.powerOn_done]
    rfl
  · rw [State.powerOn_done]
    rfl
  · rw [State.powerOn_done]
    rfl
  · rw [State.powerOn_done]
    rfl
  · rw [hstore.1, hstore.2, Store.afterPowerOn, tableAfterPowerOn, if_pos (hgood.mpr h), if_pos (hgood.mpr h)]
    exact ⟨rfl, rfl⟩
  · have hbad : ¬ s.array.image.good = true := fun hg => by
      obtain ⟨hcrc, hlegal, htable⟩ := hgood.mp hg
      simp [hcrc, hlegal, htable] at h
    rw [hstore.1, hstore.2, Store.afterPowerOn, tableAfterPowerOn, if_neg hbad, if_neg hbad]
    exact ⟨rfl, rfl⟩
  · have hgeneral : s.powerOn.matrix.generalOut = .ofFn fun _ => false := by
      rw [State.powerOn_done]
      rfl
    rw [hgeneral]
    exact Vector.getElem_ofFn ..
  · rw [State.powerOn_recorder]
    rfl
  · rw [State.powerOn_recorder]
    rfl
  · rw [State.powerOn_recorder, Recorder.afterPowerOn_buffer]
    rfl
  · rw [State.powerOn_recorder]
    exact Vector.getElem_ofFn ..
  · rw [State.powerOn_recorder]
    exact Vector.getElem_ofFn ..
  · rw [hdir]
    exact (s.array.slots[i]).scan_fields
  · have hnext : s.powerOn.recorder.nextSequence =
        sequenceAfter s.draws (largestSequence s.powerOn.recorder.directory) := by
      rw [State.powerOn_recorder, Recorder.afterPowerOn]
    rw [hnext, largestSequence_eq hmax]
    exact if_pos hlast

/-! ### The state after reset (log 5) -/

theorem blankSlot_scan (k : Nat) : (blankSlot k).scan = ⟨.empty, false, 0, 0⟩ := by
  obtain ⟨-, hstate, -, hseq, hkind⟩ := erasedHeader_emptied (draw := k) (old := ⟨List.replicate 58 0, []⟩) (body := []) rfl
  obtain ⟨hs, hk, hempty, -, -⟩ := (blankSlot k).scan_fields
  obtain ⟨hst, hlock⟩ := hempty hstate
  have hs0 : (blankSlot k).scan.sequence = 0 := hs.trans (hseq.trans (by decide))
  have hk0 : (blankSlot k).scan.kind = 0 := hk.trans (hkind.trans (by decide))
  generalize (blankSlot k).scan = e at *
  cases e
  simp_all

theorem scanSlots_blank (i : Fin 12) : (scanSlots NvArray.blank.slots)[i] = ⟨.empty, false, 0, 0⟩ := by
  have hslot : NvArray.blank.slots[i] = blankSlot i.val := Vector.getElem_ofFn ..
  rw [scanSlots_get, hslot, blankSlot_scan]

theorem State.reset_arbiter : State.reset.arbiter = Arbiter.resetSettled .defaults 0 false false := Arbiter.settle_reset ..

theorem State.reset_laws : ArbiterInv State.reset := .of_settle (Arbiter.Lawful.cleared false _).takeReset rfl

theorem State.reset_fromReset : State.reset.FromReset State.reset [] where
  axles i := by cases i <;> rfl
  reference := ⟨rfl, rfl, rfl, rfl, rfl⟩
  slide := ⟨fun i => by cases i <;> rfl, fun k => by cases k <;> rfl, rfl, rfl⟩
  loops := ⟨fun k => by cases k <;> rfl, rfl⟩
  links m := by cases m <;> rfl
  ports := ⟨fun p => by cases p <;> exact ⟨rfl, rfl⟩, fun p _ => by cases p <;> rfl, rfl, rfl, rfl⟩
  capability := ⟨fun i => by cases i <;> exact ⟨rfl, rfl⟩, rfl⟩
  outputs := ⟨rfl, by decide, by decide, rfl⟩
  demands := by
    rw [State.reset_arbiter]
    exact ⟨fun g => by simp [Arbiter.resetSettled_nonIdle, State.reset], Arbiter.resetSettled_entry _ _ _ _,
      rfl, rfl, rfl, rfl⟩
  copies := by
    rw [State.reset_arbiter]
    exact ⟨rfl, rfl, rfl, rfl, rfl, rfl, rfl, rfl, rfl, rfl, rfl, rfl⟩
  laws := State.reset_laws
  ledger := rfl
  deliveries := ⟨[], fun c => by
    have hmarks : ∀ d : Fin 8, State.reset.matrix.marks[d] ≠ true := by decide
    simp [hmarks], rfl⟩
  timers := rfl
  conditions := ⟨rfl, rfl, rfl⟩
  outside := ⟨rfl, rfl, rfl, rfl⟩

/-- Settles O53: each block of the state after reset, and each invariant by what its blocks are. -/
theorem resetHolds : Obligations.ResetHolds := by
  unfold Obligations.ResetHolds
  have hnext : State.reset.recorder.nextSequence = 1 := by
    change sequenceAfter 0 (largestSequence (scanSlots NvArray.blank.slots)) = 1
    rw [largestSequence_eq (i := 0) fun j => Nat.le_of_eq (by rw [scanSlots_blank, scanSlots_blank]), scanSlots_blank]
    rfl
  refine ⟨State.reset_fromReset, rfl, rfl, rfl, rfl, rfl, rfl, rfl, rfl, hnext, scanSlots_blank, State.reset_laws, ?_,
    ?_, .of_none rfl, .of_reset rfl, ?_⟩
  · exact {
      legal := ConfigSet.defaults_legal
      table := tableOk_default
      owed := fun _ => ⟨rfl, rfl⟩
      single := .inl rfl
      flying := fun _ h => by cases h
      waiting := fun _ h => by cases h }
  · exact .of_idle rfl (directoryLaws_afterPowerOn lockedCount_blank) (scanSlots_state_ne_sealing NvArray.blank.slots)
      (fun _ i hi => by
        change ((scanSlots NvArray.blank.slots)[i]).lock = true
        rw [scanSlots_get]
        exact hi) lockedCount_blank
  · refine .of_reset (channels := tachChannels defaultTable) (acc := 0) (dist := 0) (Nat.zero_le _) rfl rfl
      (fun b => ?_) fun i => ?_
    · have hfree : State.reset.recorder.buffers[b] = .free := Recorder.afterPowerOn_buffer ..
      rw [hfree]
      exact Nat.zero_le _
    · have hslot : State.reset.array.slots[i] = blankSlot i.val := Vector.getElem_ofFn ..
      rw [hslot]
      exact length_erasedHeader rfl

end

end Sys2Proof.Machine

/-! SUPPORT. The loss of power: the obligation O52. -/

namespace Sys2Proof.Machine

section
variable {s : State} {x : NvProgress}

/-! ### What the loss of power leaves in the array (R132, R139, R140, R142, R183, R187) -/

theorem State.interrupt_idle (h : s.nv.inFlight = none) : s.interrupt x = s := by
  rw [State.interrupt, h]

/-- The loss of power first writes the array alone, and draws the free values that it needs (R187). -/
theorem State.interrupt_rest (x : NvProgress) (s : State) :
    s.interrupt x = { s with array := (s.interrupt x).array, draws := (s.interrupt x).draws } := by
  unfold State.interrupt
  split
  case h_1 => rfl
  case h_2 => dsimp only; split <;> split <;> rfl
  case h_3 =>
    split
    case h_1 | h_2 => rfl
    case h_3 | h_4 => split <;> rfl
    case h_5 =>
      dsimp only
      split
      · rfl
      · split <;> rfl

theorem State.interrupt_store {op : ServiceOp} {written : Bool} (h : s.nv.inFlight = some (.service op written))
    (hop : (∃ w, op = .configStore w) ∨ (∃ ch f, op = .assignStore ch f)) :
    (s.interrupt x).array = { s.array with image := { s.array.image with crcOk := false } } := by
  rw [State.interrupt, h]
  rcases hop with ⟨w, rfl⟩ | ⟨ch, f, rfl⟩ <;> rfl

/-- The lock byte of a header written (R139, R140). -/
theorem NvSlot.withLock_eq (lock : Bool) (y : NvSlot) : y.withLock lock = ⟨y.header.set 1 (if lock then 1 else 0), y.body⟩ := by
  cases lock <;> rfl

theorem State.interrupt_lock {op : ServiceOp} {written lock : Bool} {slot : Fin 12}
    (h : s.nv.inFlight = some (.service op written))
    (hop : (∃ n, op = .lock slot n ∧ lock = true) ∨ (op = .unlock slot ∧ lock = false)) :
    (s.interrupt x).array =
      if x.headerWritten then s.array.withSlot slot ((s.array.slots[slot]).withLock lock) else s.array := by
  rw [State.interrupt, h]
  rcases hop with ⟨n, rfl, rfl⟩ | ⟨rfl, rfl⟩ <;> dsimp only <;> split <;> rfl

/-- The slot that a cut erase leaves (R142). -/
def State.eraseCut (x : NvProgress) (slot : Fin 12) (headerWritten : Bool) (s : State) : NvSlot :=
  ⟨if headerWritten then (s.array.slots[slot]).header else erasedHeader s.draws (s.array.slots[slot]).header,
    clearedBody s.draws x.bodyBytes (s.array.slots[slot]).body⟩

theorem State.interrupt_erase {written : Bool} {slot : Fin 12} {n : Nat}
    (h : s.nv.inFlight = some (.service (.erase slot n) written)) : (s.interrupt x).array =
      if written || x.headerWritten then s.array.withSlot slot (s.eraseCut x slot written) else s.array := by
  rw [State.interrupt, h]
  cases written with
  | true => rfl
  | false =>
    cases x.headerWritten <;> rfl

theorem State.interrupt_seal {b : Fin 2} {slot : Fin 12} {autoLock written : Bool}
    (h : s.nv.inFlight = some (.sealing b slot autoLock written)) : (s.interrupt x).array =
      if written then
        if autoLock && x.headerWritten then s.array.withSlot slot (sealedSlot s.recorder.buffers[b] .sealed true) else s.array
      else if x.headerWritten then
        s.array.withSlot slot (interruptedSlot s.draws s.recorder.buffers[b] x.bodyBytes
          (x.crcWritten && (s.recorder.buffers[b]).body.length ≤ x.bodyBytes))
      else s.array := by
  rw [State.interrupt, h]
  dsimp only
  cases written with
  | true => cases autoLock && x.headerWritten <;> rfl
  | false => cases x.headerWritten <;> rfl

/-! ### The slot that a cut seal leaves (R132) -/

section
variable {draw m : Nat} {b : Buffer} {crc : Bool}

theorem clearedBody_drop (draw m : Nat) (body : List Byte) : (clearedBody draw m body).drop m = body.drop m := by
  rw [clearedBody]
  by_cases h : m ≤ body.length
  · rw [Nat.min_eq_left h]
    exact List.drop_left' (by simp)
  · have hlen : body.length ≤ m := Nat.le_of_not_le h
    rw [Nat.min_eq_right hlen, List.drop_eq_nil_of_le hlen, List.append_nil]
    exact List.drop_eq_nil_of_le (by simpa using hlen)

theorem interruptedSlot_take : (interruptedSlot draw b m crc).body.take m = b.body.take m := by
  by_cases h : m ≤ b.body.length
  · exact List.take_left' (by simp [h])
  · have hlen : b.body.length ≤ m := Nat.le_of_not_le h
    simp [interruptedSlot, Nat.sub_eq_zero_of_le hlen, List.take_take]

theorem Buffer.firstKind_lt (b : Buffer) : b.firstKind < 256 := by
  rw [Buffer.firstKind]
  split
  · decide
  · rename_i e _ _
    cases e.trigger <;> exact Nat.lt_of_le_of_lt (Nat.le_of_ble_eq_true rfl) (by decide : 11 < 256)

/-- The header of a cut seal holds state SEALING and the incident's number and first kind, so that the scan finds the slot DAMAGED (R132, R135). -/
theorem interruptedSlot_scan : (interruptedSlot draw b m crc).scan.state = .damaged
    ∧ (interruptedSlot draw b m crc).scan.sequence = b.sequence % 4294967296
    ∧ (interruptedSlot draw b m crc).scan.kind = b.firstKind := by
  obtain ⟨rest, hheader⟩ : ∃ rest, (interruptedSlot draw b m crc).header =
      byteOf 1 :: byteOf 0 :: (four b.sequence ++ (byteOf b.firstKind :: rest)) :=
    ⟨_, by simp only [interruptedSlot, Buffer.headerFields, List.append_assoc]; rfl⟩
  obtain ⟨hseq, hkind, -, -, hdamaged⟩ := (interruptedSlot draw b m crc).scan_fields
  have hstate : (interruptedSlot draw b m crc).field 0 1 = 1 := by
    rw [NvSlot.field, hheader, numberAt_cons_zero]
  have hnumber : (interruptedSlot draw b m crc).field 2 4 = b.sequence % 4294967296 := by
    rw [NvSlot.field, hheader, numberAt_cons, numberAt_cons, numberAt_four_zero]
  have hfirst : (interruptedSlot draw b m crc).field 6 1 = b.firstKind := by
    rw [NvSlot.field, hheader, numberAt_cons, numberAt_cons, numberAt_four, numberAt_cons_zero]
    exact Nat.mod_eq_of_lt b.firstKind_lt
  exact ⟨(hdamaged (by rw [hstate]; decide) (.inl (by rw [hstate]; decide))).1, hseq.trans hnumber, hkind.trans hfirst⟩

end

/-- Settles O52: the array by the operation in flight, and the part without power for all the rest. -/
theorem powerLossTaken : Obligations.PowerLossTaken := by
  unfold Obligations.PowerLossTaken
  intro x s hpow
  have hset (slot : Fin 12) (y : NvSlot) : (s.array.slots.set slot y)[slot] = y := by
    rw [getElem_set_fin, if_pos rfl]
  refine ⟨(s.interrupt x).dark, powered_on hpow, ?_, fun hidle => ?_, fun op h hop => ⟨fun hst => ?_, fun slot lock hl => ?_,
    fun slot n he => ?_⟩, fun b slot autoLock written hop => ?_⟩
  · have hrest := s.interrupt_rest x
    generalize s.interrupt x = u at hrest ⊢
    rw [hrest]
    rfl
  · rw [State.interrupt_idle hidle]
    rfl
  · exact State.interrupt_store hop hst
  · change (x.headerWritten = false → (s.interrupt x).array = s.array) ∧ (x.headerWritten = true → (s.interrupt x).array = _)
    rw [State.interrupt_lock hop hl, NvSlot.withLock_eq]
    exact ⟨fun hx => by rw [hx]; rfl, fun hx => by rw [hx]; rfl⟩
  · subst he
    have harray : (s.interrupt x).dark.array = _ := State.interrupt_erase hop
    rw [harray]
    refine ⟨fun hh hx => ?_, fun hw => ?_⟩
    · rw [hh, hx]
      rfl
    · have hwritten : (h || x.headerWritten) = true := by simpa using hw
      rw [if_pos hwritten]
      dsimp only [NvArray.withSlot]
      rw [hset]
      refine ⟨rfl, clearedBody_drop .., fun hh => ?_, fun hh => ?_⟩
      · rw [State.eraseCut, hh]
        rfl
      · rw [State.eraseCut, hh]
        refine ⟨rfl, fun hlen => ?_⟩
        have hempty := erasedHeader_emptied (draw := s.draws) (old := s.array.slots[slot]) (body := []) hlen
        exact ⟨hempty.length, hempty.sequence, hempty.kind⟩
  · have harray : (s.interrupt x).dark.array = _ := State.interrupt_seal hop
    rw [harray]
    refine ⟨fun hw hx => ?_, fun hw hx => ?_, fun hw hx => ?_, fun hw ha hx => ?_⟩
    · rw [hw, hx]
      rfl
    · rw [hw, hx]
      dsimp only [NvArray.withSlot]
      simp only [Bool.false_eq_true, if_false, if_true]
      rw [hset]
      exact ⟨rfl, interruptedSlot_scan.1, interruptedSlot_scan.2.1, interruptedSlot_scan.2.2, interruptedSlot_take⟩
    · have hno : (autoLock && x.headerWritten) = false := by rwa [Bool.and_eq_false_iff]
      rw [hw, hno]
      rfl
    · rw [hw, ha, hx]
      rfl

end

end Sys2Proof.Machine
